-- ==== Sys2Proof/Word.lean ====
section
/-! DEFINITION. The two value widths of the block: 32-bit registers and addresses, 8-bit bytes
(00_scope.md R6, REGW = AW = DIMW = STRW = 32; R5, SAMPLE_BYTES = 1). -/

namespace Sys2Proof

/-- A register value, a command word or a byte address of M: 32 bits (R6). -/
abbrev Word := BitVec 32

/-- One byte of M; also the width of a format code and of ARG (R27, R43, R80). -/
abbrev Byte := BitVec 8

end Sys2Proof
end

