-- ==== Sys2Proof/Syntax.lean ====
section
/-! DEFINITION. The PLX command set: one constructor per row of the opcode table (30_encoding.md R81),
and the names under which a word is illegal (R88). -/

namespace Sys2Proof

/-- The four commands (R81). -/
inductive Instr where
  /-- CONFIGURE (R82, R110). -/
  | configure
  /-- SETPLANE idx (R83, R120). `idx` is ARG, zero-extended to a natural number 0 .. 255 (R86). -/
  | setplane (idx : Nat)
  /-- EXTRACT (R84, R121). -/
  | extract
  /-- SOFT_RESET (R85, R111). -/
  | softReset
deriving DecidableEq, Repr

/-- Why a word is illegal (R88); every illegal word is treated alike (R89). -/
inductive Illegal where
  /-- Bits 31:16 are not all zero. -/
  | rsvNotZero
  /-- OPC is 0x00 or 0x05 .. 0xFF. -/
  | unknownOpc
  /-- OPC is 0x01, 0x03 or 0x04 and ARG is not 0. -/
  | argNotZero
deriving DecidableEq, Repr

end Sys2Proof
end

