-- ==== Sys2Proof/WellFormed.lean ====
section
/-! DEFINITION. When a command is expressible in the C format (30_encoding.md R80, R83). -/

namespace Sys2Proof

/-- A command has an encoding: the plane index of SETPLANE fits the 8-bit ARG field (R83, R86). -/
def Instr.wf : Instr → Bool
  | .configure => true
  | .setplane idx => decide (idx ≤ 255)
  | .extract => true
  | .softReset => true

/-- `Instr.wf` as a proposition. -/
abbrev Instr.WellFormed (i : Instr) : Prop := i.wf = true

end Sys2Proof
end

