-- ==== Sys2Proof/Decode.lean ====
section
/-! DEFINITION. The decoder of command words, total on all 2^32 words (30_encoding.md R80 to R90), and
after it the encoder. A command is the data of a CMD write, not bytes of M (20_memory.md R74), so the
decoder reads one 32-bit word (log entry 16). -/

namespace Sys2Proof

/-- OPC = word[7:0] (R80). -/
def opcField (w : Word) : Nat := (w.extractLsb' 0 8).toNat

/-- ARG = word[15:8], zero-extended (R80, R86). -/
def argField (w : Word) : Nat := (w.extractLsb' 8 8).toNat

/-- RSV = word[31:16] (R80). -/
def rsvField (w : Word) : Nat := (w.extractLsb' 16 16).toNat

/-- A command that takes no argument: legal only with ARG = 0 (R81, R87). -/
def withoutArg (w : Word) (i : Instr) : Except Illegal Instr :=
  if argField w = 0 then .ok i else .error .argNotZero

/-- `decode(w)` of R87; an illegal word is rejected by name (R88). -/
def decode (w : Word) : Except Illegal Instr :=
  if rsvField w ≠ 0 then .error .rsvNotZero
  else if opcField w = 0x01 then withoutArg w .configure
  else if opcField w = 0x02 then .ok (.setplane (argField w))
  else if opcField w = 0x03 then withoutArg w .extract
  else if opcField w = 0x04 then withoutArg w .softReset
  else .error .unknownOpc

/-- The word of a well-formed command, from the encodings of R82 to R85. -/
def encode : Instr → Word
  | .configure => 0x00000001#32
  | .setplane idx => (BitVec.ofNat 32 idx <<< 8) ||| 0x02#32
  | .extract => 0x00000003#32
  | .softReset => 0x00000004#32

/-- The command word whose low `nbits` bits are those of `w` and whose other bits are zero. -/
def tableWord (nbits w : Nat) : Word := BitVec.ofNat 32 (w % 2 ^ nbits)

/-- The command the decoder reads from an instruction of `nbits` bits given as the number `w`; `none`
where the word is illegal. -/
def decodeTableWord (nbits w : Nat) : Option Instr :=
  match decode (tableWord nbits w) with
  | .ok i => some i
  | .error _ => none

end Sys2Proof
end

