-- ==== Sys2Proof/Config.lean ====
section
/-! DEFINITION. What an implementation or the platform fixes (00_scope.md R5, R6), and the one free
value of the model. -/

namespace Sys2Proof

/-- Size of M in bytes: 2^AW with AW = 32 (R6, R43). Addresses are the numbers below it. -/
def Config.memBytes : Nat := 4294967296

/-- Size of the register window in bytes: WINDOW (R6, R24). -/
def Config.windowBytes : Nat := 0x80

/-- PLX_BASE, the bus address of offset 0 of the register window: an OPEN platform parameter
(R6; log entry 14). No body: nothing can be proved of its value. -/
opaque Config.plxBase : Nat

/-- The byte that an EXTRACT abandoned by a hardware reset leaves at a destination address: `any
value` (93_implementation_defined.md U13; log entry 9). The first argument is State's counter
`freeCount`, the second the address. No body: nothing can be proved of its value. -/
opaque Config.freeByte (count addr : Nat) : Byte

end Sys2Proof
end

