-- ==== Sys2Proof/Machine/State.lean ====
section
/-! DEFINITION. The whole state of one PLX instance (10_state.md R20), the host's program beside it, and
the state after reset (R44). Plain data throughout. -/

namespace Sys2Proof.Machine

/-- STATE (R23). Codes: `SessionState.code`. -/
inductive SessionState where
  /-- 0: no geometry has been set since reset. -/
  | unconfigured
  /-- 1: an active geometry is set. -/
  | configured
  /-- 2: an EXTRACT is in progress; never observed by the issuing host (R41). -/
  | processing
  /-- 3: a fatal error ended the session (R113). -/
  | halted
deriving DecidableEq, Repr

/-- ERR, the three errors of the taxonomy and none (R35, R181). Codes: `ErrCode.code`; the codes 4 to 7
that R181 says are never produced have no constructor (log entry 12). -/
inductive ErrCode where
  | noError
  | unsupportedFormat
  | frameMapError
  | allocationFailure
deriving DecidableEq, Repr

/-- CAUSE, which check of EXTRACT raised ERR (R36, R182). Codes: `Cause.code`. -/
inductive Cause where
  /-- 0x00: no error. -/
  | noError
  /-- 0x10: G.format is neither I420 nor YV12 (R126). -/
  | badFormat
  /-- 0x11: a plane index of 3 or more was offered (R127). -/
  | planeIndex
  /-- 0x12: an odd dimension (R128). -/
  | oddDimension
  /-- 0x13: EXTRACT in state Unconfigured (R122). -/
  | notConfigured
  /-- 0x20: a plane descriptor is missing (R129). -/
  | descriptorMissing
  /-- 0x21: a stride is smaller than its plane's width (R130). -/
  | strideTooSmall
  /-- 0x22: a source plane runs past the end of M (R131). -/
  | sourceRange
  /-- 0x30: the buffer exceeds DST_CAP (R132). -/
  | capacity
  /-- 0x31: the buffer runs past the end of M (R132). -/
  | destinationRange
deriving DecidableEq, Repr

/-- The two pixel formats in scope (R5 FORMATS, R27). -/
inductive PixelFormat where
  | i420
  | yv12
deriving DecidableEq, Repr

/-- A semantic identity: which colour channel a plane is (R38, R153). Codes: `Sem.code`. -/
inductive Sem where
  | y
  | u
  | v
deriving DecidableEq, Repr

/-- A storage index 0, 1, 2 (R5 NPLANES = 3; R12). -/
inductive Plane where
  | p0
  | p1
  | p2
deriving DecidableEq, Repr

/-- One value for each storage index. -/
structure PerPlane (α : Type) where
  p0 : α
  p1 : α
  p2 : α
deriving DecidableEq, Repr

/-- A geometry {format, width, height, cropEn, cropW, cropH} (R27 to R29, R32). The format is kept as
its 8-bit code, since any code may be staged and committed (R27). -/
structure Geometry where
  format : Byte
  width  : Word
  height : Word
  cropEn : Bool
  cropW  : Word
  cropH  : Word
deriving DecidableEq, Repr

/-- The staged plane descriptor SPD (R30). -/
structure StagedDescriptor where
  addr   : Word
  stride : Word
deriving DecidableEq, Repr

/-- One entry of the plane descriptor table PD (R33). -/
structure PlaneEntry where
  valid  : Bool
  addr   : Word
  stride : Word
deriving DecidableEq, Repr

/-- One entry of the plane range table PR (R38). -/
structure PlaneRange where
  offset : Word
  size   : Word
  sem    : Sem
deriving DecidableEq, Repr

/-- M as its listed bytes: addresses strictly rising and below 2^32, no entry equal to what an unlisted
address reads as (`Memory.wf`). -/
abbrev Memory := List Host.Cell

/-- One event at the block's boundary: a host transaction, a host access to M, or hardware reset. -/
inductive HostEvent where
  /-- `WR(off, v)`, a 32-bit write to window offset `off` (R11, R101). -/
  | wr (off : Nat) (v : Word)
  /-- `RD(off)`, a 32-bit read of window offset `off` (R11, R105). -/
  | rd (off : Nat)
  /-- A window access at offset `off` that is not 32 bits wide: byte, halfword, burst (R65, R106). -/
  | otherAccess (off : Nat)
  /-- The host's own store of a byte into M (R43, R72, R91 `mem[..] = ..`). -/
  | store (addr : Nat) (b : Byte)
  /-- The host's own load of a byte of M (R43, R72). -/
  | load (addr : Nat)
  /-- Hardware reset between commands (R210, R211). -/
  | hwReset
  /-- A CMD write of `w` whose command a hardware reset abandons (R211, U13). -/
  | cmdCutByReset (w : Word)
deriving DecidableEq, Repr

/-- What an event returns to the host: the 32-bit value of an `RD`, the byte of a host load, or
nothing. -/
inductive Reply where
  | nothing
  | word (v : Word)
  | byte (b : Byte)
deriving DecidableEq, Repr

/-- The whole state: the elements of R20, then the model's own three fields. -/
structure State where
  /-- STATE (R23). -/
  state    : SessionState
  /-- SG, the staged geometry (R27 to R29). -/
  sg       : Geometry
  /-- G, the active geometry (R32). -/
  g        : Geometry
  /-- SPD, the staged plane descriptor (R30). -/
  spd      : StagedDescriptor
  /-- PD[0..2], the plane descriptor table (R33). -/
  pd       : PerPlane PlaneEntry
  /-- BADPLANE (R34). -/
  badPlane : Bool
  /-- DST_ADDR (R31). -/
  dstAddr  : Word
  /-- DST_CAP (R31). -/
  dstCap   : Word
  /-- ERR (R35). -/
  err      : ErrCode
  /-- CAUSE (R36). -/
  cause    : Cause
  /-- OUT_VALID (R37). -/
  outValid : Bool
  /-- OUT_LEN (R37). -/
  outLen   : Word
  /-- OUT_ADDR (R37). -/
  outAddr  : Word
  /-- PR[0..2], the plane range table (R38). -/
  pr       : PerPlane PlaneRange
  /-- CMDERR (R39). -/
  cmdErr   : Bool
  /-- M (R43). -/
  mem      : Memory
  /-- The MODEL's own: the host's events still to come, oldest first (R42; log entry 1). -/
  pending  : List HostEvent
  /-- The MODEL's own: what the last event returned to the host (R105; log entry 5). -/
  reply    : Reply
  /-- The MODEL's own: the counter the free bytes of U13 are drawn with (log entry 9). -/
  freeCount : Nat
deriving DecidableEq, Repr

/-- The all-zero geometry: format "none", sizes 0, crop absent (R44). -/
def Geometry.zero : Geometry :=
  { format := 0#8, width := 0#32, height := 0#32, cropEn := false, cropW := 0#32, cropH := 0#32 }

/-- A descriptor table entry that offers nothing (R33). -/
def PlaneEntry.zero : PlaneEntry := { valid := false, addr := 0#32, stride := 0#32 }

/-- The all-zero range table entry (R38). -/
def PlaneRange.zero : PlaneRange := { offset := 0#32, size := 0#32, sem := .y }

/-- The same value at each storage index. -/
def PerPlane.replicate {α : Type} (x : α) : PerPlane α := { p0 := x, p1 := x, p2 := x }

/-- The machine right after reset (R44, R211): STATE Unconfigured and every register, table entry and
flag zero; M lists nothing (log entry 3) and the host has issued nothing (log entry 1). -/
def State.reset : State where
  state    := .unconfigured
  sg       := Geometry.zero
  g        := Geometry.zero
  spd      := { addr := 0#32, stride := 0#32 }
  pd       := PerPlane.replicate PlaneEntry.zero
  badPlane := false
  dstAddr  := 0#32
  dstCap   := 0#32
  err      := .noError
  cause    := .noError
  outValid := false
  outLen   := 0#32
  outAddr  := 0#32
  pr       := PerPlane.replicate PlaneRange.zero
  cmdErr   := false
  mem      := []
  pending  := []
  reply    := .nothing
  freeCount := 0

/-- Why a step stops with a fault. -/
inductive Fault where
  /-- Raised by a host load or store (`HostEvent.load`, `HostEvent.store`) at an address M does not have,
  2^32 or above (R9, R43, R69). No command raises it. Safe: the machine stops. -/
  | noSuchAddress (addr : Nat)
deriving DecidableEq, Repr

/-- Why a step is refused. -/
inductive Refusal where
  /-- Raised by `exec` for an instruction that has no meaning yet; no arm raises it. Safe. -/
  | notModelled (mnemonic : String)
  /-- Raised by EXTRACT, whole or cut short by a reset, when every check has passed and the destination
  range shares a byte with the frame footprint: the spec assigns no result and asks a model to refuse
  (R133, R217, U7; log entry 6). Safe. -/
  | destinationOverlapsSource
  /-- Raised by a window access that is not 32 bits wide, not aligned to 4, or at offset 0x80 or more: the
  spec gives it no behaviour and asks a model to refuse (R106, U10; log entry 7). Safe. -/
  | undefinedWindowAccess (off : Nat)
deriving DecidableEq, Repr

/-- What `exec` and `step` answer. -/
abbrev Result := Host.Outcome State Fault Refusal

end Sys2Proof.Machine
end

