-- ==== Sys2Proof/Machine/Flags.lean ====
section
/-! DEFINITION. Numeric codes of the enumerated fields (10_state.md R23, R35, R36, R38; 60_exceptions.md
R181, R182; 43_plane_range_table.md R151 to R153) and the STATUS word composed of the flags (R26). -/

namespace Sys2Proof.Machine

/-- The 2-bit code of STATE (R23). -/
def SessionState.code : SessionState → BitVec 2
  | .unconfigured => 0#2
  | .configured   => 1#2
  | .processing   => 2#2
  | .halted       => 3#2

/-- The 3-bit code of ERR (R35, R181). -/
def ErrCode.code : ErrCode → BitVec 3
  | .noError           => 0#3
  | .unsupportedFormat => 1#3
  | .frameMapError     => 2#3
  | .allocationFailure => 3#3

/-- The 8-bit code of CAUSE (R182). -/
def Cause.code : Cause → BitVec 8
  | .noError           => 0x00#8
  | .badFormat         => 0x10#8
  | .planeIndex        => 0x11#8
  | .oddDimension      => 0x12#8
  | .notConfigured     => 0x13#8
  | .descriptorMissing => 0x20#8
  | .strideTooSmall    => 0x21#8
  | .sourceRange       => 0x22#8
  | .capacity          => 0x30#8
  | .destinationRange  => 0x31#8

/-- The error a cause belongs to: the column ERR of R182. -/
def Cause.err : Cause → ErrCode
  | .noError           => .noError
  | .badFormat         => .unsupportedFormat
  | .planeIndex        => .unsupportedFormat
  | .oddDimension      => .unsupportedFormat
  | .notConfigured     => .unsupportedFormat
  | .descriptorMissing => .frameMapError
  | .strideTooSmall    => .frameMapError
  | .sourceRange       => .frameMapError
  | .capacity          => .allocationFailure
  | .destinationRange  => .allocationFailure

/-- The 2-bit code of a semantic identity (R153). -/
def Sem.code : Sem → BitVec 2
  | .y => 0#2
  | .u => 1#2
  | .v => 2#2

/-- The format a code names, none for every unsupported code (R27). -/
def PixelFormat.ofCode (c : Byte) : Option PixelFormat :=
  if c = 1#8 then some .i420
  else if c = 2#8 then some .yv12
  else none

/-- SEM (R151, R152), an exhaustive match with no default arm (R154). -/
def semOf : PixelFormat → Plane → Sem
  | .i420, .p0 => .y
  | .i420, .p1 => .u
  | .i420, .p2 => .v
  | .yv12, .p0 => .y
  | .yv12, .p1 => .v
  | .yv12, .p2 => .u

/-- A one-bit field as a 32-bit number. -/
def bitWord (b : Bool) : Word := if b then 1#32 else 0#32

/-- The value of STATUS (R26, R105). -/
def statusWord (s : State) : Word :=
  s.state.code.setWidth 32
    ||| (s.err.code.setWidth 32 <<< 4)
    ||| (bitWord s.outValid <<< 8)
    ||| (bitWord s.badPlane <<< 9)
    ||| (bitWord s.cmdErr <<< 10)
    ||| (bitWord s.pd.p0.valid <<< 11)
    ||| (bitWord s.pd.p1.valid <<< 12)
    ||| (bitWord s.pd.p2.valid <<< 13)
    ||| (s.cause.code.setWidth 32 <<< 16)

end Sys2Proof.Machine
end

