-- ==== Sys2Proof/Machine/Ops.lean ====
section
/-! DEFINITION. The shared operations: bytes of M (00_scope.md R9), the tables indexed by plane, accepting
and rejecting a command (30_encoding.md R89), the failure procedure (60_exceptions.md R186), reset
(70_reset_and_hazards.md R211) and the updates they are made of. -/

namespace Sys2Proof.Machine

/-! ### Memory -/

/-- What an address that `Memory` does not list reads as: 0x00. DESIGN CHOICE, unsafe: the spec leaves M
after power-on to the platform (R212; log entry 3). -/
def unlistedByte : Byte := 0x00#8

/-- `MemRead(addr, 1)` (R9). -/
def Memory.read : Memory → Nat → Byte
  | [], _ => unlistedByte
  | (a, b) :: rest, addr => if addr = a then b else Memory.read rest addr

/-- `MemWrite(addr, 1, v)` (R9), keeping the canonical form. -/
def Memory.write : Memory → Nat → Byte → Memory
  | [], addr, v => if v = unlistedByte then [] else [(addr, v)]
  | (a, b) :: rest, addr, v =>
    if addr < a then
      if v = unlistedByte then (a, b) :: rest else (addr, v) :: (a, b) :: rest
    else if addr = a then
      if v = unlistedByte then rest else (addr, v) :: rest
    else (a, b) :: Memory.write rest addr v

/-- The canonical form of M: addresses strictly rising, all below 2^32, no entry that an unlisted
address would read as. -/
def Memory.wf (m : Memory) : Bool :=
  decide (m.Pairwise fun x y => x.1 < y.1)
    && m.all fun c => decide (c.1 < Config.memBytes) && decide (c.2 ≠ unlistedByte)

/-- One byte move of the copy: read the source, then write the destination (R71, R134). -/
def Memory.move (m : Memory) (sd : Nat × Nat) : Memory := m.write sd.2 (m.read sd.1)

/-- A list of byte moves, in order (R71). -/
def Memory.moveAll (m : Memory) (moves : List (Nat × Nat)) : Memory := moves.foldl Memory.move m

/-- Free bytes at the listed addresses (U13; log entry 9). -/
def Memory.scramble (m : Memory) (count : Nat) (addrs : List Nat) : Memory :=
  addrs.foldl (fun m a => m.write a (Config.freeByte count a)) m

/-! ### Tables indexed by plane -/

/-- The entry at a storage index (R8). -/
def PerPlane.get {α : Type} (t : PerPlane α) : Plane → α
  | .p0 => t.p0
  | .p1 => t.p1
  | .p2 => t.p2

/-- The table with one entry replaced. -/
def PerPlane.set {α : Type} (t : PerPlane α) (p : Plane) (x : α) : PerPlane α :=
  match p with
  | .p0 => { t with p0 := x }
  | .p1 => { t with p1 := x }
  | .p2 => { t with p2 := x }

/-- The table of a function of the storage index. -/
def PerPlane.ofPlane {α : Type} (f : Plane → α) : PerPlane α :=
  { p0 := f .p0, p1 := f .p1, p2 := f .p2 }

/-- The storage order (R71, R134). -/
def Plane.all : List Plane := [.p0, .p1, .p2]

/-- The storage index a plane number names; none for 3 and above (R120). -/
def planeOfIndex : Nat → Option Plane
  | 0 => some .p0
  | 1 => some .p1
  | 2 => some .p2
  | _ => none

/-! ### Updates of the state -/

/-- `STATE <- x`. -/
def State.withState (s : State) (x : SessionState) : State := { s with state := x }

/-- `CMDERR <- x`. -/
def State.withCmdErr (s : State) (x : Bool) : State := { s with cmdErr := x }

/-- `ERR <- e; CAUSE <- c`. -/
def State.withError (s : State) (e : ErrCode) (c : Cause) : State := { s with err := e, cause := c }

/-- `OUT_VALID, OUT_LEN, OUT_ADDR <- 0` and `PR` all zero: no buffer is vouched for (R37, R38). -/
def State.withoutResults (s : State) : State :=
  { s with
    outValid := false
    outLen := 0#32
    outAddr := 0#32
    pr := PerPlane.replicate PlaneRange.zero }

/-- `OUT_VALID <- 1; OUT_LEN <- len; OUT_ADDR <- addr; PR <- ranges` (R135). -/
def State.withResults (s : State) (len addr : Word) (ranges : PerPlane PlaneRange) : State :=
  { s with outValid := true, outLen := len, outAddr := addr, pr := ranges }

/-- All plane descriptors dropped and `BADPLANE <- 0`: the frame is consumed (R33, R34, R136). -/
def State.withoutFrame (s : State) : State :=
  { s with pd := PerPlane.replicate PlaneEntry.zero, badPlane := false }

/-- The six staged values copied together into G (R110). -/
def State.withGeometryCommitted (s : State) : State := { s with g := s.sg }

/-- `PD[p] <- {valid: 1, addr: SPD.addr, stride: SPD.stride}` (R33, R120). -/
def State.withPlane (s : State) (p : Plane) : State :=
  { s with pd := s.pd.set p { valid := true, addr := s.spd.addr, stride := s.spd.stride } }

/-- `BADPLANE <- 1` (R34). -/
def State.withBadPlane (s : State) : State := { s with badPlane := true }

/-- The state with another M. -/
def State.withMem (s : State) (m : Memory) : State := { s with mem := m }

/-- The state with another answer to the host. -/
def State.withReply (s : State) (r : Reply) : State := { s with reply := r }

/-- One free choice is drawn (log entry 9). -/
def State.withFreeDrawn (s : State) : State := { s with freeCount := s.freeCount + 1 }

/-- Every element of R20 except M takes its reset value (R111, R211); the model's own fields stay. -/
def State.blockReset (s : State) : State :=
  { State.reset with
    mem := s.mem
    pending := s.pending
    reply := s.reply
    freeCount := s.freeCount }

/-! ### Commands: rejection, acceptance, failure -/

/-- Rejection of a CMD write: `CMDERR <- 1` and nothing else (R89). -/
def State.rejected (s : State) : State := s.withCmdErr true

/-- The gate of CONFIGURE, SETPLANE and EXTRACT: rejected in Halted, otherwise `CMDERR <- 0` and the
command's body runs (R89, R104, R113). -/
def acceptUnlessHalted (s : State) (body : State → Result) : Result :=
  if s.state = .halted then .next s.rejected else body (s.withCmdErr false)

/-- `fail(E, c)` of R186, the block's "trap entry"; `s0` is the value STATE had when the EXTRACT began.
Nothing is saved, and there is no return beside it: a non-fatal error needs none (R189), and Halted is
left only by reset (R191), which is `State.blockReset`. -/
def fail (e : ErrCode) (c : Cause) (s0 : SessionState) (s : State) : State :=
  (((s.withError e c).withoutResults).withoutFrame).withState
    (if e = .frameMapError then .halted else s0)

end Sys2Proof.Machine
end

