-- ==== Sys2Proof/Machine/Operands.lean ====
section
/-! DEFINITION. What EXTRACT computes from its operands: effective size, plane dimensions, segment
offsets, the nine checks and their order, the footprint and the byte moves (42_frame_commands.md R122 to
R139). All arithmetic is over the natural numbers: nothing wraps (00_scope.md R7, 42_frame_commands.md R138). -/

namespace Sys2Proof.Machine

/-- `odd(a)`: bit 0 is 1 (R7). -/
def isOdd (v : Word) : Bool := v.getLsbD 0

/-- Effective width W: the crop region's if one is present (R123). -/
def effW (g : Geometry) : Nat := if g.cropEn then g.cropW.toNat else g.width.toNat

/-- Effective height H (R123). -/
def effH (g : Geometry) : Nat := if g.cropEn then g.cropH.toNat else g.height.toNat

/-- `w[p]` (R124). -/
def planeW (g : Geometry) : Plane → Nat
  | .p0 => effW g
  | .p1 => effW g / 2
  | .p2 => effW g / 2

/-- `h[p]` (R124). -/
def planeH (g : Geometry) : Plane → Nat
  | .p0 => effH g
  | .p1 => effH g / 2
  | .p2 => effH g / 2

/-- `size[p] = w[p] * h[p]` (R125). -/
def planeSize (g : Geometry) (p : Plane) : Nat := planeW g p * planeH g p

/-- `off[p]`, the segment's offset in the ContiguousBuffer (R125). -/
def planeOff (g : Geometry) : Plane → Nat
  | .p0 => 0
  | .p1 => planeSize g .p0
  | .p2 => planeSize g .p0 + planeSize g .p1

/-- The buffer length L (R125). -/
def bufLen (g : Geometry) : Nat := planeSize g .p0 + planeSize g .p1 + planeSize g .p2

/-- The source address of byte `c` of row `r` of a plane (R134, R139). -/
def srcAddr (e : PlaneEntry) (r c : Nat) : Nat := e.addr.toNat + r * e.stride.toNat + c

/-- The destination address of byte `c` of row `r` of plane `p` (R134, R139). -/
def dstByte (g : Geometry) (dst : Word) (p : Plane) (r c : Nat) : Nat :=
  dst.toNat + planeOff g p + r * planeW g p + c

/-! ### The checks of EXTRACT, in the order of R187 -/

/-- R128: an odd declared dimension, or an odd crop dimension while a crop region is present. -/
def hasOddDimension (g : Geometry) : Bool :=
  isOdd g.width || isOdd g.height || (g.cropEn && (isOdd g.cropW || isOdd g.cropH))

/-- R129: some descriptor was not offered. -/
def descriptorsMissing (pd : PerPlane PlaneEntry) : Bool :=
  Plane.all.any fun p => !(pd.get p).valid

/-- R130: some stride is smaller than its plane's width, whatever the plane's height. -/
def strideBelowWidth (g : Geometry) (pd : PerPlane PlaneEntry) : Bool :=
  Plane.all.any fun p => decide ((pd.get p).stride.toNat < planeW g p)

/-- `end[p]`, one past the last source byte of a plane with at least one row (R131). -/
def srcEnd (g : Geometry) (pd : PerPlane PlaneEntry) (p : Plane) : Nat :=
  (pd.get p).addr.toNat + (planeH g p - 1) * (pd.get p).stride.toNat + planeW g p

/-- R131: some plane with at least one byte to read runs past the end of M. -/
def sourceOutsideMemory (g : Geometry) (pd : PerPlane PlaneEntry) : Bool :=
  Plane.all.any fun p =>
    decide (0 < planeW g p) && decide (0 < planeH g p) && decide (Config.memBytes < srcEnd g pd p)

/-- The checks after the state gate, in the order of R187: the first that fails gives the cause; when
none fails, the format the frame is packed in (R126 to R132). -/
def frameCheck (s : State) : Except Cause PixelFormat :=
  match PixelFormat.ofCode s.g.format with
  | none => .error .badFormat
  | some f =>
    if s.badPlane then .error .planeIndex
    else if hasOddDimension s.g then .error .oddDimension
    else if descriptorsMissing s.pd then .error .descriptorMissing
    else if strideBelowWidth s.g s.pd then .error .strideTooSmall
    else if sourceOutsideMemory s.g s.pd then .error .sourceRange
    else if s.dstCap.toNat < bufLen s.g then .error .capacity
    else if Config.memBytes < s.dstAddr.toNat + bufLen s.g then .error .destinationRange
    else .ok f

/-! ### Footprint, destination, copy -/

/-- Address `a` is in the frame footprint (R133). -/
def InFootprint (g : Geometry) (pd : PerPlane PlaneEntry) (a : Nat) : Prop :=
  ∃ p r c, r < planeH g p ∧ c < planeW g p ∧ a = srcAddr (pd.get p) r c

/-- Address `a` is in the destination range [DST_ADDR, DST_ADDR + L) (R133). -/
def InDestination (g : Geometry) (dst : Word) (a : Nat) : Prop :=
  dst.toNat ≤ a ∧ a < dst.toNat + bufLen g

/-- Whether footprint and destination range share a byte (R133, R217), row by row. -/
def overlaps (g : Geometry) (pd : PerPlane PlaneEntry) (dst : Word) : Bool :=
  Plane.all.any fun p =>
    (List.range (planeH g p)).any fun r =>
      decide (0 < planeW g p)
        && decide (srcAddr (pd.get p) r 0 < dst.toNat + bufLen g)
        && decide (dst.toNat < srcAddr (pd.get p) r 0 + planeW g p)

/-- The byte moves (source, destination) of one row, left to right (R134). -/
def rowMoves (g : Geometry) (pd : PerPlane PlaneEntry) (dst : Word) (p : Plane) (r : Nat) :
    List (Nat × Nat) :=
  (List.range (planeW g p)).map fun c => (srcAddr (pd.get p) r c, dstByte g dst p r c)

/-- The byte moves of a plane, top row first (R134). -/
def planeMoves (g : Geometry) (pd : PerPlane PlaneEntry) (dst : Word) (p : Plane) :
    List (Nat × Nat) :=
  (List.range (planeH g p)).flatMap (rowMoves g pd dst p)

/-- The byte moves of the frame, in storage order (R71, R134). -/
def frameMoves (g : Geometry) (pd : PerPlane PlaneEntry) (dst : Word) : List (Nat × Nat) :=
  Plane.all.flatMap (planeMoves g pd dst)

/-- The addresses of the destination range, ascending. -/
def destinationAddrs (g : Geometry) (dst : Word) : List Nat :=
  (List.range (bufLen g)).map (dst.toNat + ·)

/-- PR[p] of a successful EXTRACT (R150). -/
def planeRange (g : Geometry) (f : PixelFormat) (p : Plane) : PlaneRange :=
  { offset := BitVec.ofNat 32 (planeOff g p)
    size := BitVec.ofNat 32 (planeSize g p)
    sem := semOf f p }

end Sys2Proof.Machine
end

