-- ==== Sys2Proof/Machine/Frame.lean ====
section
/-! DEFINITION. The frame commands SETPLANE and EXTRACT (42_frame_commands.md R120, R121). -/

namespace Sys2Proof.Machine

/-- SETPLANE idx (R120): fills PD[idx], or latches BADPLANE for an index of 3 or more. -/
def execSetplane (idx : Nat) (s : State) : Result :=
  acceptUnlessHalted s fun s =>
    match planeOfIndex idx with
    | some p => .next (s.withPlane p)
    | none => .next s.withBadPlane

/-- The frame packed: the copy (R134), the results (R135), the frame consumed (R136), STATE Configured
(R137). `f` is the format the checks established. -/
def packed (f : PixelFormat) (s : State) : State :=
  (((((s.withMem (s.mem.moveAll (frameMoves s.g s.pd s.dstAddr))).withError .noError .noError).withResults
    (BitVec.ofNat 32 (bufLen s.g)) s.dstAddr (PerPlane.ofPlane (planeRange s.g f))).withoutFrame).withState
    .configured)

/-- EXTRACT (R121): the state gate (R122), the checks in the order of R187, then the copy. A destination
range that shares a byte with the footprint has no result in the spec and is refused (R133, U7). -/
def execExtract (s : State) : Result :=
  acceptUnlessHalted s fun s1 =>
    if s1.state = .unconfigured then
      .next (fail .unsupportedFormat .notConfigured s1.state s1)
    else
      match frameCheck (s1.withState .processing) with
      | .error c => .next (fail c.err c s1.state (s1.withState .processing))
      | .ok f =>
        if overlaps s1.g s1.pd s1.dstAddr then .refused .destinationOverlapsSource
        else .next (packed f (s1.withState .processing))

end Sys2Proof.Machine
end

