-- ==== Sys2Proof/Machine/Session.lean ====
section
/-! DEFINITION. The session commands CONFIGURE and SOFT_RESET (41_session_commands.md R110, R111). -/

namespace Sys2Proof.Machine

/-- CONFIGURE (R110): commits the staged geometry, drops the frame and the results, clears the error. -/
def execConfigure (s : State) : Result :=
  acceptUnlessHalted s fun s =>
    .next (((((s.withGeometryCommitted).withoutFrame).withError .noError .noError).withoutResults).withState
      .configured)

/-- SOFT_RESET (R111): accepted in every state, Halted included. -/
def execSoftReset (s : State) : Result := .next s.blockReset

end Sys2Proof.Machine
end

