-- ==== Sys2Proof/Machine/Dispatch.lean ====
section
/-! DEFINITION. One command executed: one arm per constructor of `Instr` (40_register_access.md R104). -/

namespace Sys2Proof.Machine

def exec (i : Instr) (s : State) : Host.Outcome State Fault Refusal :=
  match i with
  | .configure => Sys2Proof.Machine.execConfigure s
  | .setplane idx => Sys2Proof.Machine.execSetplane idx s
  | .extract => Sys2Proof.Machine.execExtract s
  | .softReset => Sys2Proof.Machine.execSoftReset s

end Sys2Proof.Machine
end

