-- ==== Sys2Proof/Machine/Window.lean ====
section
/-! DEFINITION. The register window: the map of 10_state.md R24, its reads (40_register_access.md R105)
and its writes other than to CMD (R102, R103); and the bus addresses of the window (00_scope.md R6). -/

namespace Sys2Proof.Machine

/-- A register of the window (R24). -/
inductive WindowReg where
  | cmd
  | status
  | gFormat
  | gWidth
  | gHeight
  | gCropCtrl
  | gCropWidth
  | gCropHeight
  | pdAddr
  | pdStride
  | dstAddr
  | dstCap
  | aFormat
  | aWidth
  | aHeight
  | aCropCtrl
  | aCropWidth
  | aCropHeight
  | outLen
  | outAddr
  | prOffset (p : Plane)
  | prSize (p : Plane)
  | prSem (p : Plane)
  /-- A reserved offset: 0x5C, 0x6C, 0x7C. -/
  | reserved
deriving DecidableEq, Repr

/-- The register at a window offset (R24); none where no transaction is defined: misaligned, or 0x80 and
above (R65, R106). -/
def windowReg : Nat → Option WindowReg
  | 0x00 => some .cmd
  | 0x04 => some .status
  | 0x08 => some .gFormat
  | 0x0C => some .gWidth
  | 0x10 => some .gHeight
  | 0x14 => some .gCropCtrl
  | 0x18 => some .gCropWidth
  | 0x1C => some .gCropHeight
  | 0x20 => some .pdAddr
  | 0x24 => some .pdStride
  | 0x28 => some .dstAddr
  | 0x2C => some .dstCap
  | 0x30 => some .aFormat
  | 0x34 => some .aWidth
  | 0x38 => some .aHeight
  | 0x3C => some .aCropCtrl
  | 0x40 => some .aCropWidth
  | 0x44 => some .aCropHeight
  | 0x48 => some .outLen
  | 0x4C => some .outAddr
  | 0x50 => some (.prOffset .p0)
  | 0x54 => some (.prSize .p0)
  | 0x58 => some (.prSem .p0)
  | 0x5C => some .reserved
  | 0x60 => some (.prOffset .p1)
  | 0x64 => some (.prSize .p1)
  | 0x68 => some (.prSem .p1)
  | 0x6C => some .reserved
  | 0x70 => some (.prOffset .p2)
  | 0x74 => some (.prSize .p2)
  | 0x78 => some (.prSem .p2)
  | 0x7C => some .reserved
  | _ => none

/-- The value `RD` returns (R105). CMD and reserved offsets read 0; bits without a field read 0. -/
def readReg (s : State) : WindowReg → Word
  | .cmd         => 0#32
  | .status      => statusWord s
  | .gFormat     => s.sg.format.setWidth 32
  | .gWidth      => s.sg.width
  | .gHeight     => s.sg.height
  | .gCropCtrl   => bitWord s.sg.cropEn
  | .gCropWidth  => s.sg.cropW
  | .gCropHeight => s.sg.cropH
  | .pdAddr      => s.spd.addr
  | .pdStride    => s.spd.stride
  | .dstAddr     => s.dstAddr
  | .dstCap      => s.dstCap
  | .aFormat     => s.g.format.setWidth 32
  | .aWidth      => s.g.width
  | .aHeight     => s.g.height
  | .aCropCtrl   => bitWord s.g.cropEn
  | .aCropWidth  => s.g.cropW
  | .aCropHeight => s.g.cropH
  | .outLen      => s.outLen
  | .outAddr     => s.outAddr
  | .prOffset p  => (s.pr.get p).offset
  | .prSize p    => (s.pr.get p).size
  | .prSem p     => (s.pr.get p).sem.code.setWidth 32
  | .reserved    => 0#32

/-- The effect of `WR` on a register other than CMD: staging registers keep the bits of their field
(R102); read-only registers and reserved offsets ignore the write (R103). CMD stores nothing (R25). -/
def writeReg (s : State) (v : Word) : WindowReg → State
  | .gFormat     => { s with sg := { s.sg with format := v.extractLsb' 0 8 } }
  | .gWidth      => { s with sg := { s.sg with width := v } }
  | .gHeight     => { s with sg := { s.sg with height := v } }
  | .gCropCtrl   => { s with sg := { s.sg with cropEn := v.getLsbD 0 } }
  | .gCropWidth  => { s with sg := { s.sg with cropW := v } }
  | .gCropHeight => { s with sg := { s.sg with cropH := v } }
  | .pdAddr      => { s with spd := { s.spd with addr := v } }
  | .pdStride    => { s with spd := { s.spd with stride := v } }
  | .dstAddr     => { s with dstAddr := v }
  | .dstCap      => { s with dstCap := v }
  | .cmd         => s
  | .status      => s
  | .aFormat     => s
  | .aWidth      => s
  | .aHeight     => s
  | .aCropCtrl   => s
  | .aCropWidth  => s
  | .aCropHeight => s
  | .outLen      => s
  | .outAddr     => s
  | .prOffset _  => s
  | .prSize _    => s
  | .prSem _     => s
  | .reserved    => s

/-- The window offset of a bus address, where the address lies in the window at PLX_BASE (R6, R24;
log entry 14). -/
def windowOffset (busAddr : Nat) : Option Nat :=
  if Config.plxBase ≤ busAddr ∧ busAddr < Config.plxBase + Config.windowBytes then
    some (busAddr - Config.plxBase)
  else none

/-- The transaction a 32-bit bus write to this block is; none where the address is not the block's. -/
def busWrite (busAddr : Nat) (v : Word) : Option HostEvent :=
  (windowOffset busAddr).map fun off => .wr off v

/-- The transaction a 32-bit bus read of this block is; none where the address is not the block's. -/
def busRead (busAddr : Nat) : Option HostEvent :=
  (windowOffset busAddr).map .rd

end Sys2Proof.Machine
end

