-- ==== Sys2Proof/Machine/HostPort.lean ====
section
/-! DEFINITION. What each event at the block's boundary does: the CMD write (40_register_access.md R104),
`WR` and `RD` (R101 to R106), the host's own accesses to M (20_memory.md R72) and hardware reset, between
commands or during one (70_reset_and_hazards.md R211). -/

namespace Sys2Proof.Machine

/-- `WR(0x00, w)` (R104): an illegal word is rejected, a legal one executed. -/
def writeCmd (w : Word) (s : State) : Result :=
  match decode w with
  | .error _ => .next s.rejected
  | .ok i => exec i s

/-- `WR(off, v)` (R101). -/
def hostWrite (off : Nat) (v : Word) (s : State) : Result :=
  match windowReg off with
  | none => .refused (.undefinedWindowAccess off)
  | some .cmd => writeCmd v s
  | some r => .next (writeReg s v r)

/-- `RD(off)` (R105): returns the value and changes nothing else. -/
def hostRead (off : Nat) (s : State) : Result :=
  match windowReg off with
  | none => .refused (.undefinedWindowAccess off)
  | some r => .next (s.withReply (.word (readReg s r)))

/-- A window access that is not 32 bits wide: no transaction of the block, at any offset (R65, R106). -/
def hostOtherAccess (off : Nat) (_s : State) : Result := .refused (.undefinedWindowAccess off)

/-- The host stores a byte into M (R43, R67, R72). -/
def hostStore (addr : Nat) (b : Byte) (s : State) : Result :=
  if addr < Config.memBytes then .next (s.withMem (s.mem.write addr b)) else .fault (.noSuchAddress addr)

/-- The host loads a byte of M (R43, R67, R72). -/
def hostLoad (addr : Nat) (s : State) : Result :=
  if addr < Config.memBytes then .next (s.withReply (.byte (s.mem.read addr)))
  else .fault (.noSuchAddress addr)

/-- What a command leaves in M when a hardware reset abandons it (R211, U13): an EXTRACT that reached its
copy leaves free bytes in its destination range and the rest of M alone; every other command, and an
EXTRACT that fails, writes no byte of M (R61). -/
def extractCutByReset (s : State) : Result :=
  if s.state = .halted ∨ s.state = .unconfigured then .next s.blockReset
  else
    match frameCheck s with
    | .error _ => .next s.blockReset
    | .ok _ =>
      if overlaps s.g s.pd s.dstAddr then .refused .destinationOverlapsSource
      else
        .next ((s.withMem (s.mem.scramble s.freeCount (destinationAddrs s.g s.dstAddr))).withFreeDrawn).blockReset

/-- A CMD write of `w` abandoned by a hardware reset (R211, U13). -/
def cmdCutByReset (w : Word) (s : State) : Result :=
  match decode w with
  | .ok .extract => extractCutByReset s
  | .ok .configure => .next s.blockReset
  | .ok (.setplane _) => .next s.blockReset
  | .ok .softReset => .next s.blockReset
  | .error _ => .next s.blockReset

/-- One event performed. -/
def hostEvent (e : HostEvent) (s : State) : Result :=
  match e with
  | .wr off v => hostWrite off v s
  | .rd off => hostRead off s
  | .otherAccess off => hostOtherAccess off s
  | .store addr b => hostStore addr b s
  | .load addr => hostLoad addr s
  | .hwReset => .next s.blockReset
  | .cmdCutByReset w => cmdCutByReset w s

/-- The event leaves the host's program and the answer to the previous one is gone. -/
def takeEvent (rest : List HostEvent) (s : State) : State :=
  { s with pending := rest, reply := .nothing }

/-- The next event of the host's program performed; with none left the block is idle and holds its
state (R201). -/
def performNext (s : State) : Result :=
  match s.pending with
  | [] => .next s
  | e :: rest => hostEvent e (takeEvent rest s)

/-- The host's next event is a CMD write of `w`; the events already pending follow it. -/
def issueCommand (w : Word) (s : State) : State :=
  { s with pending := .wr 0x00 w :: s.pending }

end Sys2Proof.Machine
end

