-- ==== Sys2Proof/Machine/Step.lean ====
section
/-! DEFINITION. One step of the machine: the next event of the host's program, performed completely
(40_register_access.md R100). -/

namespace Sys2Proof.Machine

/-- One step. The block has no program counter (R22): what it executes next is the next CMD write of the
host, which stands at the head of `pending`. -/
def step (s : State) : Host.Outcome State Fault Refusal := performNext s

/-- The state in which the very next step runs the command word `w` of `nbits` bits: the host issues
`WR(0x00, w)` next (log entry 1). -/
def State.withFetchWord (s : State) (nbits w : Nat) : State := issueCommand (tableWord nbits w) s

end Sys2Proof.Machine
end

