-- ==== Sys2Proof/Safety.lean ====
section
/-! DEFINITION. The terms claims are stated in: the conditions and order of EXTRACT's errors as the tables
of 60_exceptions.md give them (R182, R187), the state a failure leaves (R186), what holds in every state
(10_state.md R45), what the block vouches for while OUT_VALID = 1 (44_downstream_contract.md R160), and
when an event is a reset. Nothing here is used by the machine. -/

namespace Sys2Proof.Machine

/-! ### The errors of EXTRACT -/

/-- The column "condition" of R182, one line per cause, over the natural numbers. -/
def CauseHolds (s : State) : Cause → Prop
  | .noError => False
  | .notConfigured => s.state = .unconfigured
  | .badFormat => s.g.format ≠ 1#8 ∧ s.g.format ≠ 2#8
  | .planeIndex => s.badPlane = true
  | .oddDimension =>
    s.g.width.toNat % 2 = 1 ∨ s.g.height.toNat % 2 = 1 ∨
      (s.g.cropEn = true ∧ (s.g.cropW.toNat % 2 = 1 ∨ s.g.cropH.toNat % 2 = 1))
  | .descriptorMissing => ∃ p, (s.pd.get p).valid = false
  | .strideTooSmall => ∃ p, (s.pd.get p).stride.toNat < planeW s.g p
  | .sourceRange =>
    ∃ p, 0 < planeW s.g p ∧ 0 < planeH s.g p ∧
      2 ^ 32 < (s.pd.get p).addr.toNat + (planeH s.g p - 1) * (s.pd.get p).stride.toNat + planeW s.g p
  | .capacity => s.dstCap.toNat < bufLen s.g
  | .destinationRange => 2 ^ 32 < s.dstAddr.toNat + bufLen s.g

/-- The fixed order of the table of R187. -/
def causeOrder : List Cause :=
  [.notConfigured, .badFormat, .planeIndex, .oddDimension, .descriptorMissing, .strideTooSmall,
    .sourceRange, .capacity, .destinationRange]

/-- `c` is the first cause in the order of R187 whose condition holds. -/
def FirstCause (s : State) (c : Cause) : Prop :=
  ∃ before after, causeOrder = before ++ c :: after ∧ (∀ d ∈ before, ¬ CauseHolds s d) ∧ CauseHolds s c

/-- No error condition of R182 holds. -/
def NoCause (s : State) : Prop := ∀ c, ¬ CauseHolds s c

/-- What an accepted EXTRACT that fails with `c` leaves (R186): every field named, the rest as before. -/
def failedWith (c : Cause) (s : State) : State :=
  { s with
    cmdErr := false
    err := c.err
    cause := c
    outValid := false
    outLen := 0#32
    outAddr := 0#32
    pr := PerPlane.replicate { offset := 0#32, size := 0#32, sem := .y }
    pd := PerPlane.replicate { valid := false, addr := 0#32, stride := 0#32 }
    badPlane := false
    state := if c.err = .frameMapError then .halted else s.state }

/-- Source footprint and destination range share no byte (R133, R217). -/
def FrameDisjoint (s : State) : Prop :=
  ∀ a, InFootprint s.g s.pd a → ¬ InDestination s.g s.dstAddr a

/-! ### Invariants -/

/-- What holds in every state between transactions: items 1 to 7 of R45, in their order. -/
structure SessionInv (s : State) : Prop where
  /-- 1. STATE is never observed as Processing. -/
  not_processing : s.state ≠ .processing
  /-- 2. Halted comes with FrameMapError and without a buffer. -/
  halted : s.state = .halted → s.err = .frameMapError ∧ s.outValid = false
  /-- 3. Unconfigured comes with the zero geometry and without a buffer. -/
  unconfigured : s.state = .unconfigured → s.g = Geometry.zero ∧ s.outValid = false
  /-- 4. A valid buffer comes without an error, in Configured, with a supported format. -/
  valid_clean : s.outValid = true →
    s.err = .noError ∧ s.cause = .noError ∧ s.state = .configured ∧ (s.g.format = 1#8 ∨ s.g.format = 2#8)
  /-- 5. ERR and CAUSE are zero together. -/
  err_cause : s.err = .noError ↔ s.cause = .noError
  /-- 6. Without a valid buffer the result registers are zero. -/
  invalid_zero : s.outValid = false →
    s.outLen = 0#32 ∧ s.outAddr = 0#32 ∧ s.pr = PerPlane.replicate PlaneRange.zero
  /-- 7. With a valid buffer the ranges tile it and it lies inside M. -/
  valid_tiles : s.outValid = true →
    s.pr.p0.offset = 0#32 ∧ s.pr.p1.offset = s.pr.p0.size ∧
    s.pr.p2.offset.toNat = s.pr.p0.size.toNat + s.pr.p1.size.toNat ∧
    s.outLen.toNat = s.pr.p0.size.toNat + s.pr.p1.size.toNat + s.pr.p2.size.toNat ∧
    s.pr.p1.size = s.pr.p2.size ∧ s.pr.p0.sem = .y ∧
    ((s.pr.p1.sem = .u ∧ s.pr.p2.sem = .v) ∨ (s.pr.p1.sem = .v ∧ s.pr.p2.sem = .u)) ∧
    s.outAddr.toNat + s.outLen.toNat ≤ 2 ^ 32

/-- While OUT_VALID = 1 the reported length and ranges are those of the active geometry (R160 (b), (c);
R150). -/
def ResultsMatchGeometry (s : State) : Prop :=
  s.outValid = true →
    s.outLen.toNat = effW s.g * effH s.g + 2 * ((effW s.g / 2) * (effH s.g / 2)) ∧
    ∃ f, PixelFormat.ofCode s.g.format = some f ∧
      ∀ p, (s.pr.get p).offset.toNat = planeOff s.g p ∧ (s.pr.get p).size.toNat = planeSize s.g p ∧
        (s.pr.get p).sem = semOf f p

/-! ### Events -/

/-- The events after which the block has its reset values: SOFT_RESET and hardware reset (R210). -/
def IsReset : HostEvent → Prop
  | .wr off v => off = 0x00 ∧ v = 0x00000004#32
  | .rd _ => False
  | .otherAccess _ => False
  | .store _ _ => False
  | .load _ => False
  | .hwReset => True
  | .cmdCutByReset _ => True

/-- Every element of R20 but M has its reset value, all zero (R44, R211). -/
def BlockIsReset (t : State) : Prop :=
  t.state = .unconfigured ∧
  t.sg = { format := 0#8, width := 0#32, height := 0#32, cropEn := false, cropW := 0#32, cropH := 0#32 } ∧
  t.g = { format := 0#8, width := 0#32, height := 0#32, cropEn := false, cropW := 0#32, cropH := 0#32 } ∧
  t.spd = { addr := 0#32, stride := 0#32 } ∧
  (∀ p, t.pd.get p = { valid := false, addr := 0#32, stride := 0#32 }) ∧
  t.badPlane = false ∧ t.dstAddr = 0#32 ∧ t.dstCap = 0#32 ∧
  t.err = .noError ∧ t.cause = .noError ∧
  t.outValid = false ∧ t.outLen = 0#32 ∧ t.outAddr = 0#32 ∧
  (∀ p, t.pr.get p = { offset := 0#32, size := 0#32, sem := .y }) ∧
  t.cmdErr = false

end Sys2Proof.Machine
end

