-- ==== Sys2Proof/Certificates/Slice0/Obligations.lean ====
section
/-! DEFINITION. The statements for the provers. Each docstring names the rules of spec/ it formalises. -/

open Sys2Proof Sys2Proof.Machine

/-! ### Encoding (30_encoding.md) -/

/-- R82 to R85: command words written out from their encodings decode to their commands. -/
def Obligations.CommandWordsDecode : Prop :=
  decode 0x00000001#32 = .ok .configure ∧
  decode 0x00000002#32 = .ok (.setplane 0) ∧
  decode 0x00000102#32 = .ok (.setplane 1) ∧
  decode 0x00000202#32 = .ok (.setplane 2) ∧
  decode 0x0000FF02#32 = .ok (.setplane 255) ∧
  decode 0x00000003#32 = .ok .extract ∧
  decode 0x00000004#32 = .ok .softReset

/-- R80, R82 to R86: every well-formed command, with every plane index ARG admits, is read back from its
own word. -/
def Obligations.DecodeInvertsEncode : Prop :=
  ∀ i : Instr, i.WellFormed → decode (encode i) = .ok i

/-- R80 to R87: a legal word is the encoding of the command it decodes to: no bit of it is dropped. -/
def Obligations.EncodeInvertsDecode : Prop :=
  ∀ (w : Word) (i : Instr), decode w = .ok i → i.WellFormed ∧ encode i = w

/-- R87: the decode function, outcome by outcome, and the count of the legal words. -/
def Obligations.DecodeFollowsLegal : Prop :=
  (∀ w : Word,
    let opc := w.extractLsb' 0 8
    let arg := w.extractLsb' 8 8
    let rsv := w.extractLsb' 16 16
    (rsv = 0#16 ∧ opc = 0x01#8 ∧ arg = 0#8 → decode w = .ok .configure) ∧
    (rsv = 0#16 ∧ opc = 0x02#8 → decode w = .ok (.setplane arg.toNat)) ∧
    (rsv = 0#16 ∧ opc = 0x03#8 ∧ arg = 0#8 → decode w = .ok .extract) ∧
    (rsv = 0#16 ∧ opc = 0x04#8 ∧ arg = 0#8 → decode w = .ok .softReset) ∧
    (¬ (rsv = 0#16 ∧ ((opc = 0x01#8 ∧ arg = 0#8) ∨ opc = 0x02#8 ∨ (opc = 0x03#8 ∧ arg = 0#8) ∨
        (opc = 0x04#8 ∧ arg = 0#8))) →
      ∃ e, decode w = .error e)) ∧
  (∃ legal : List Word, legal.length = 259 ∧ legal.Nodup ∧
    (∀ w, w ∈ legal ↔ ∃ i, decode w = .ok i) ∧
    (∀ w, w ∈ legal ↔ w = 0x00000001#32 ∨ w = 0x00000003#32 ∨ w = 0x00000004#32 ∨
      ∃ ii < 256, w.toNat = ii * 256 + 2))

/-! ### Steps and CMD writes (40_register_access.md, 30_encoding.md R89) -/

/-- R100, R104: when the host's next event is a CMD write of a word that decodes to `i`, the step is
`exec i`, with the event taken from the host's program and the previous answer to the host gone. That the
host's program stands in State is the model's choice (log entries 1, 5). -/
def Obligations.StepExecutesDecodedCommand : Prop :=
  ∀ (s : State) (w : Word) (rest : List HostEvent) (i : Instr),
    s.pending = .wr 0x00 w :: rest → decode w = .ok i →
      i.WellFormed ∧ step s = exec i { s with pending := rest, reply := .nothing }

/-- R100: a step performs the host's next transaction, one completely before the next; R210, R211: hardware
reset, between commands or during one. The model's choices: the host's program and the reply stand in State
(log entries 1, 5), the host's own loads and stores of M are events beside its transactions (log entry 4), a
hardware reset is an event and those behind it stay pending (log entry 8), and so is a command that a hardware
reset abandons (U13; log entry 9). -/
def Obligations.StepPerformsTheNextEvent : Prop :=
  ∀ (s : State) (rest : List HostEvent),
    let s1 : State := { s with pending := rest, reply := .nothing }
    (∀ off v, s.pending = .wr off v :: rest → step s = hostWrite off v s1) ∧
    (∀ off, s.pending = .rd off :: rest → step s = hostRead off s1) ∧
    (∀ off, s.pending = .otherAccess off :: rest → step s = hostOtherAccess off s1) ∧
    (∀ a b, s.pending = .store a b :: rest → step s = hostStore a b s1) ∧
    (∀ a, s.pending = .load a :: rest → step s = hostLoad a s1) ∧
    (s.pending = .hwReset :: rest → step s = .next s1.blockReset) ∧
    (∀ w, s.pending = .cmdCutByReset w :: rest → step s = cmdCutByReset w s1)

/-- R201: between commands the block is idle and holds its state. That a step without an event left is
this idle time is the model's choice (log entry 2). -/
def Obligations.IdleStepHoldsState : Prop :=
  ∀ s : State, s.pending = [] → step s = .next s

/-- R89: a write to CMD is rejected exactly when its word is illegal or STATE is Halted and the command is
not SOFT_RESET; a rejected write sets CMDERR and nothing else; any other write clears CMDERR and then
executes its command. -/
def Obligations.CmdWriteRejectsOrExecutes : Prop :=
  ∀ (s : State) (w : Word),
    (((∃ e, decode w = .error e) ∨ (s.state = .halted ∧ decode w ≠ .ok .softReset)) →
      hostWrite 0x00 w s = .next { s with cmdErr := true }) ∧
    (∀ i, decode w = .ok i → (s.state ≠ .halted ∨ i = .softReset) →
      hostWrite 0x00 w s = exec i { s with cmdErr := false } ∧
      ∀ t, hostWrite 0x00 w s = .next t → t.cmdErr = false)

/-- R113: in Halted every command but SOFT_RESET is rejected: CMDERR <- 1 and nothing else. -/
def Obligations.HaltedRejectsFrameAndSessionCommands : Prop :=
  ∀ (s : State) (idx : Nat), s.state = .halted →
    exec .configure s = .next { s with cmdErr := true } ∧
    exec (.setplane idx) s = .next { s with cmdErr := true } ∧
    exec .extract s = .next { s with cmdErr := true }

/-! ### Session commands (41_session_commands.md) -/

/-- R110: CONFIGURE completes in every state but Halted, where it is rejected. Whatever the staged values,
every field it writes is named and every other field, M included, is as before. -/
def Obligations.ConfigureCommitsGeometry : Prop :=
  ∀ s : State,
    (s.state = .halted → exec .configure s = .next { s with cmdErr := true }) ∧
    (s.state ≠ .halted → exec .configure s = .next
      { s with
        cmdErr := false
        g := { format := s.sg.format, width := s.sg.width, height := s.sg.height,
               cropEn := s.sg.cropEn, cropW := s.sg.cropW, cropH := s.sg.cropH }
        pd := PerPlane.replicate { valid := false, addr := 0#32, stride := 0#32 }
        badPlane := false
        err := .noError
        cause := .noError
        outValid := false
        outLen := 0#32
        outAddr := 0#32
        pr := PerPlane.replicate { offset := 0#32, size := 0#32, sem := .y }
        state := .configured })

/-- R111, R44: SOFT_RESET completes in every state, Halted included; every element but M has its reset
value, and M and the model's own fields are as before. -/
def Obligations.SoftResetClearsAllButMemory : Prop :=
  ∀ s : State, ∃ t, exec .softReset s = .next t ∧ BlockIsReset t ∧
    t.mem = s.mem ∧ t.pending = s.pending ∧ t.reply = s.reply ∧ t.freeCount = s.freeCount

/-- R44, R105: after SOFT_RESET every register of the window reads zero. -/
def Obligations.WindowReadsZeroAfterReset : Prop :=
  ∀ (s t : State) (off : Nat) (r : WindowReg), exec .softReset s = .next t →
    windowReg off = some r → readReg t r = 0#32

/-- R112: the state machine, row by row. -/
def Obligations.StateMachineTransitions : Prop :=
  ∀ (s t : State) (idx : Nat),
    (s.state = .unconfigured →
      (exec .configure s = .next t → t.state = .configured) ∧
      (exec (.setplane idx) s = .next t → t.state = .unconfigured) ∧
      (exec .extract s = .next t →
        t.state = .unconfigured ∧ t.err = .unsupportedFormat ∧ t.cause.code = 0x13#8) ∧
      (exec .softReset s = .next t → t.state = .unconfigured)) ∧
    (s.state = .configured →
      (exec .configure s = .next t → t.state = .configured) ∧
      (exec (.setplane idx) s = .next t → t.state = .configured) ∧
      (exec .extract s = .next t →
        (t.outValid = true ∧ t.err = .noError ∧ t.state = .configured) ∨
        (t.outValid = false ∧ (t.err = .unsupportedFormat ∨ t.err = .allocationFailure) ∧
          t.state = .configured) ∨
        (t.outValid = false ∧ t.err = .frameMapError ∧ t.state = .halted)) ∧
      (exec .softReset s = .next t → t.state = .unconfigured)) ∧
    (s.state = .halted →
      (exec .configure s = .next t → t = { s with cmdErr := true }) ∧
      (exec (.setplane idx) s = .next t → t = { s with cmdErr := true }) ∧
      (exec .extract s = .next t → t = { s with cmdErr := true }) ∧
      (exec .softReset s = .next t → t.state = .unconfigured))

/-- R191: Halted is left only by SOFT_RESET or hardware reset, and both start a new session in
Unconfigured with all registers zero. -/
def Obligations.HaltedIsLeftOnlyByReset : Prop :=
  ∀ s t : State, s.state = .halted → step s = .next t → t.state ≠ .halted →
    (∃ e rest, s.pending = e :: rest ∧ IsReset e) ∧ BlockIsReset t

/-- R32: no event but a CONFIGURE or a reset changes the active geometry; a CONFIGURE makes it the staged
one. -/
def Obligations.ActiveGeometryPersists : Prop :=
  ∀ s t : State, step s = .next t → t.g ≠ s.g →
    ∃ e rest, s.pending = e :: rest ∧
      ((e = .wr 0x00 0x00000001#32 ∧ t.g = s.sg) ∨ (IsReset e ∧ t.g = Geometry.zero))

/-! ### Frame commands (42_frame_commands.md) -/

/-- R120: SETPLANE completes in every state but Halted, where it is rejected. Index 0, 1, 2 fills that entry
of PD, an index of 3 or more latches BADPLANE, and every other field, M included, is as before. -/
def Obligations.SetplaneStoresOrLatches : Prop :=
  ∀ (s : State) (idx : Nat),
    (s.state = .halted → exec (.setplane idx) s = .next { s with cmdErr := true }) ∧
    (s.state ≠ .halted → idx = 0 → exec (.setplane idx) s = .next
      { s with cmdErr := false
               pd := { s.pd with p0 := { valid := true, addr := s.spd.addr, stride := s.spd.stride } } }) ∧
    (s.state ≠ .halted → idx = 1 → exec (.setplane idx) s = .next
      { s with cmdErr := false
               pd := { s.pd with p1 := { valid := true, addr := s.spd.addr, stride := s.spd.stride } } }) ∧
    (s.state ≠ .halted → idx = 2 → exec (.setplane idx) s = .next
      { s with cmdErr := false
               pd := { s.pd with p2 := { valid := true, addr := s.spd.addr, stride := s.spd.stride } } }) ∧
    (s.state ≠ .halted → 3 ≤ idx → exec (.setplane idx) s = .next { s with cmdErr := false, badPlane := true })

/-- R123 to R125: effective size, plane dimensions, segment sizes and offsets, and the buffer length. -/
def Obligations.FrameDimensionsAndOffsets : Prop :=
  ∀ g : Geometry,
    let W := if g.cropEn = true then g.cropW.toNat else g.width.toNat
    let H := if g.cropEn = true then g.cropH.toNat else g.height.toNat
    (planeW g .p0 = W ∧ planeH g .p0 = H) ∧
    (planeW g .p1 = W / 2 ∧ planeH g .p1 = H / 2) ∧
    (planeW g .p2 = W / 2 ∧ planeH g .p2 = H / 2) ∧
    (∀ p, planeSize g p = planeW g p * planeH g p) ∧
    (planeOff g .p0 = 0 ∧ planeOff g .p1 = W * H ∧ planeOff g .p2 = W * H + (W / 2) * (H / 2)) ∧
    bufLen g = W * H + 2 * ((W / 2) * (H / 2)) ∧
    (W % 2 = 0 → H % 2 = 0 → 2 * bufLen g = 3 * (W * H))

/-- R187, R182, R186: an EXTRACT that is not rejected and meets an error condition ends in the failure
procedure with the FIRST cause in the order of R187, whatever else holds. -/
def Obligations.ExtractFailsWithFirstCause : Prop :=
  ∀ (s : State) (c : Cause), s.state ≠ .halted → s.state ≠ .processing → FirstCause s c →
    exec .extract s = .next (failedWith c s)

/-- R121, R134, R135, R150: an EXTRACT in Configured with no error condition and disjoint ranges completes.
Every byte of every plane's segment is the source byte, no byte outside the destination range changes, and
every other field is as the rules say. -/
def Obligations.ExtractPacksFrame : Prop :=
  ∀ s : State, s.mem.wf = true → s.state = .configured → NoCause s → FrameDisjoint s →
    ∃ t f, exec .extract s = .next t ∧
      (∀ p r c, r < planeH s.g p → c < planeW s.g p →
        t.mem.read (s.dstAddr.toNat + planeOff s.g p + r * planeW s.g p + c) =
          s.mem.read ((s.pd.get p).addr.toNat + r * (s.pd.get p).stride.toNat + c)) ∧
      (∀ a, ¬ (s.dstAddr.toNat ≤ a ∧ a < s.dstAddr.toNat + bufLen s.g) → t.mem.read a = s.mem.read a) ∧
      t.outLen.toNat = bufLen s.g ∧
      ((s.g.format = 1#8 ∧ f = .i420) ∨ (s.g.format = 2#8 ∧ f = .yv12)) ∧
      (∀ p, (t.pr.get p).offset.toNat = planeOff s.g p ∧ (t.pr.get p).size.toNat = planeSize s.g p ∧
        (t.pr.get p).sem = semOf f p) ∧
      t = { s with
        cmdErr := false
        err := .noError
        cause := .noError
        outValid := true
        outLen := t.outLen
        outAddr := s.dstAddr
        pr := t.pr
        pd := PerPlane.replicate { valid := false, addr := 0#32, stride := 0#32 }
        badPlane := false
        mem := t.mem
        state := .configured }

/-- R133, R217, U7: where no error condition holds and the destination range shares a byte with the
footprint, the spec assigns no result and EXTRACT is refused by name. -/
def Obligations.OverlappingExtractIsRefused : Prop :=
  ∀ s : State, s.state = .configured → NoCause s → ¬ FrameDisjoint s →
    exec .extract s = .refused .destinationOverlapsSource

/-- R136: every completion of a non-rejected EXTRACT drops the plane descriptors and clears BADPLANE. -/
def Obligations.ExtractConsumesFrame : Prop :=
  ∀ s t : State, s.state ≠ .halted → exec .extract s = .next t →
    (∀ p, t.pd.get p = { valid := false, addr := 0#32, stride := 0#32 }) ∧ t.badPlane = false

/-- R137, R21, R32: no EXTRACT, whatever its outcome, changes G, the staging registers, DST_ADDR or
DST_CAP. -/
def Obligations.ExtractKeepsOperandRegisters : Prop :=
  ∀ s t : State, exec .extract s = .next t →
    t.g = s.g ∧ t.sg = s.sg ∧ t.spd = s.spd ∧ t.dstAddr = s.dstAddr ∧ t.dstCap = s.dstCap

/-- R61, R188: a register transaction that copies no frame neither reads nor writes M: with any other
memory it does the same and leaves that memory as it was. This covers `RD`, `WR` to every register,
CONFIGURE, SETPLANE, SOFT_RESET, rejected words and failed EXTRACTs. -/
def Obligations.OnlyACopyTouchesMemory : Prop :=
  ∀ (s t : State) (off : Nat) (v : Word) (m : Memory),
    (hostRead off s = .next t →
      ∃ t', hostRead off { s with mem := m } = .next t' ∧ t.mem = s.mem ∧ t' = { t with mem := m }) ∧
    (hostWrite off v s = .next t →
      ¬ (off = 0x00 ∧ decode v = .ok .extract ∧ s.state ≠ .halted ∧ t.outValid = true) →
      ∃ t', hostWrite off v { s with mem := m } = .next t' ∧ t.mem = s.mem ∧ t' = { t with mem := m })

/-- R42, R140 (e): the outcome of an accepted EXTRACT is a function of STATE, G, PD, BADPLANE, DST_ADDR,
DST_CAP and the footprint bytes, and of nothing else. -/
def Obligations.ExtractDependsOnlyOnFrame : Prop :=
  ∀ s s' t : State, s.mem.wf = true → s'.mem.wf = true → s.state ≠ .halted →
    s'.state = s.state → s'.g = s.g → s'.pd = s.pd → s'.badPlane = s.badPlane →
    s'.dstAddr = s.dstAddr → s'.dstCap = s.dstCap →
    (∀ a, InFootprint s.g s.pd a → s'.mem.read a = s.mem.read a) →
    exec .extract s = .next t →
    ∃ t', exec .extract s' = .next t' ∧
      t'.state = t.state ∧ t'.err = t.err ∧ t'.cause = t.cause ∧ t'.outValid = t.outValid ∧
      t'.outLen = t.outLen ∧ t'.outAddr = t.outAddr ∧ t'.pr = t.pr ∧
      (t.outValid = true → ∀ a, InDestination s.g s.dstAddr a → t'.mem.read a = t.mem.read a)

/-- R133, 95_test_vectors.md S8: two frames of the same geometry with the same logical picture, whatever
their addresses, strides and padding, pack to the same bytes and the same ranges. -/
def Obligations.PackingIgnoresPadding : Prop :=
  ∀ s s' t t' : State, s.mem.wf = true → s'.mem.wf = true →
    s.state = .configured → s'.state = .configured → s'.g = s.g → s'.dstAddr = s.dstAddr →
    (∀ p r c, r < planeH s.g p → c < planeW s.g p →
      s'.mem.read (srcAddr (s'.pd.get p) r c) = s.mem.read (srcAddr (s.pd.get p) r c)) →
    exec .extract s = .next t → exec .extract s' = .next t' →
    t.outValid = true → t'.outValid = true →
    t'.outLen = t.outLen ∧ t'.pr = t.pr ∧
      ∀ a, InDestination s.g s.dstAddr a → t'.mem.read a = t.mem.read a

/-- R155, R151, R152: the same frame packed as I420 and as YV12 gives the same M, offsets and sizes; only
the semantic identities of entries 1 and 2 differ: Y, U, V against Y, V, U. -/
def Obligations.FormatDecidesOnlyTheNames : Prop :=
  ∀ s t : State, s.g.format = 1#8 → s.state ≠ .halted → exec .extract s = .next t → t.outValid = true →
    ∃ t', exec .extract { s with g := { s.g with format := 2#8 } } = .next t' ∧
      t'.mem = t.mem ∧ t'.outLen = t.outLen ∧ t'.outAddr = t.outAddr ∧
      (∀ p, (t'.pr.get p).offset = (t.pr.get p).offset ∧ (t'.pr.get p).size = (t.pr.get p).size) ∧
      (t.pr.p0.sem.code = 0#2 ∧ t.pr.p1.sem.code = 1#2 ∧ t.pr.p2.sem.code = 2#2) ∧
      (t'.pr.p0.sem.code = 0#2 ∧ t'.pr.p1.sem.code = 2#2 ∧ t'.pr.p2.sem.code = 1#2)

/-- R140 (a), (b): a produced buffer has length W*H + 2*((W/2)*(H/2)), at most the sum of stride times
height of the planes, and fits the offered region. -/
def Obligations.OutputLengthIsBounded : Prop :=
  ∀ s t : State, s.state ≠ .halted → exec .extract s = .next t → t.outValid = true →
    t.outLen.toNat = effW s.g * effH s.g + 2 * ((effW s.g / 2) * (effH s.g / 2)) ∧
    t.outLen.toNat ≤ (s.pd.get .p0).stride.toNat * planeH s.g .p0 +
      (s.pd.get .p1).stride.toNat * planeH s.g .p1 + (s.pd.get .p2).stride.toNat * planeH s.g .p2 ∧
    t.outLen.toNat ≤ s.dstCap.toNat

/-- R221, R141: an EXTRACT issued right after a successful one, without new descriptors, raises
FrameMapError 0x20 and halts the session. -/
def Obligations.SecondExtractWithoutPlanesHalts : Prop :=
  ∀ s t : State, s.state = .configured → exec .extract s = .next t → t.outValid = true →
    ∃ u, exec .extract t = .next u ∧
      u.state = .halted ∧ u.err = .frameMapError ∧ u.cause.code = 0x20#8 ∧ u.outValid = false ∧ u.mem = t.mem

/-! ### Register window (10_state.md R24, R26; 40_register_access.md) -/

/-- R26: the fields of STATUS at their bit positions, the reserved bits zero. -/
def Obligations.StatusFieldsAtTheirBits : Prop :=
  ∀ s : State,
    let v := readReg s .status
    v.extractLsb' 0 2 = s.state.code ∧ v.extractLsb' 2 2 = 0#2 ∧
    v.extractLsb' 4 3 = s.err.code ∧ v.extractLsb' 7 1 = 0#1 ∧
    v.getLsbD 8 = s.outValid ∧ v.getLsbD 9 = s.badPlane ∧ v.getLsbD 10 = s.cmdErr ∧
    v.getLsbD 11 = s.pd.p0.valid ∧ v.getLsbD 12 = s.pd.p1.valid ∧ v.getLsbD 13 = s.pd.p2.valid ∧
    v.extractLsb' 14 2 = 0#2 ∧ v.extractLsb' 16 8 = s.cause.code ∧ v.extractLsb' 24 8 = 0#8

/-- R23, R181, R182: the numeric codes, and the high nibble of CAUSE repeats ERR. -/
def Obligations.CodesOfStateErrorAndCause : Prop :=
  (SessionState.unconfigured.code = 0#2 ∧ SessionState.configured.code = 1#2 ∧
    SessionState.processing.code = 2#2 ∧ SessionState.halted.code = 3#2) ∧
  (ErrCode.noError.code = 0#3 ∧ ErrCode.unsupportedFormat.code = 1#3 ∧
    ErrCode.frameMapError.code = 2#3 ∧ ErrCode.allocationFailure.code = 3#3) ∧
  causeOrder.map Cause.code =
    [0x13#8, 0x10#8, 0x11#8, 0x12#8, 0x20#8, 0x21#8, 0x22#8, 0x30#8, 0x31#8] ∧
  (∀ c : Cause, (c.code.extractLsb' 4 4).toNat = c.err.code.toNat)

/-- R105: `RD` at each offset returns the value of the table and changes no state of the block (`reply` is
where the model puts the returned value). -/
def Obligations.ReadReturnsTheRegister : Prop :=
  ∀ (s : State) (off : Nat), off < 0x80 → off % 4 = 0 →
    ∃ v, hostRead off s = .next { s with reply := .word v } ∧
      (off = 0x00 → v = 0#32) ∧
      (off = 0x04 → v = s.state.code.setWidth 32 ||| (s.err.code.setWidth 32 <<< 4) |||
        (bitWord s.outValid <<< 8) ||| (bitWord s.badPlane <<< 9) ||| (bitWord s.cmdErr <<< 10) |||
        (bitWord s.pd.p0.valid <<< 11) ||| (bitWord s.pd.p1.valid <<< 12) |||
        (bitWord s.pd.p2.valid <<< 13) ||| (s.cause.code.setWidth 32 <<< 16)) ∧
      (off = 0x08 → v.toNat = s.sg.format.toNat) ∧
      (off = 0x0C → v = s.sg.width) ∧ (off = 0x10 → v = s.sg.height) ∧
      (off = 0x14 → v.toNat = s.sg.cropEn.toNat) ∧
      (off = 0x18 → v = s.sg.cropW) ∧ (off = 0x1C → v = s.sg.cropH) ∧
      (off = 0x20 → v = s.spd.addr) ∧ (off = 0x24 → v = s.spd.stride) ∧
      (off = 0x28 → v = s.dstAddr) ∧ (off = 0x2C → v = s.dstCap) ∧
      (off = 0x30 → v.toNat = s.g.format.toNat) ∧
      (off = 0x34 → v = s.g.width) ∧ (off = 0x38 → v = s.g.height) ∧
      (off = 0x3C → v.toNat = s.g.cropEn.toNat) ∧
      (off = 0x40 → v = s.g.cropW) ∧ (off = 0x44 → v = s.g.cropH) ∧
      (off = 0x48 → v = s.outLen) ∧ (off = 0x4C → v = s.outAddr) ∧
      (off = 0x50 → v = s.pr.p0.offset) ∧ (off = 0x54 → v = s.pr.p0.size) ∧
      (off = 0x58 → v.toNat = s.pr.p0.sem.code.toNat) ∧ (off = 0x5C → v = 0#32) ∧
      (off = 0x60 → v = s.pr.p1.offset) ∧ (off = 0x64 → v = s.pr.p1.size) ∧
      (off = 0x68 → v.toNat = s.pr.p1.sem.code.toNat) ∧ (off = 0x6C → v = 0#32) ∧
      (off = 0x70 → v = s.pr.p2.offset) ∧ (off = 0x74 → v = s.pr.p2.size) ∧
      (off = 0x78 → v.toNat = s.pr.p2.sem.code.toNat) ∧ (off = 0x7C → v = 0#32)

/-- R102: `WR` to a staging register keeps the bits of its field and changes nothing else. -/
def Obligations.WriteStagesTheField : Prop :=
  ∀ (s : State) (off : Nat) (v : Word),
    (off = 0x08 → hostWrite off v s = .next { s with sg := { s.sg with format := v.extractLsb' 0 8 } }) ∧
    (off = 0x0C → hostWrite off v s = .next { s with sg := { s.sg with width := v } }) ∧
    (off = 0x10 → hostWrite off v s = .next { s with sg := { s.sg with height := v } }) ∧
    (off = 0x14 → hostWrite off v s = .next { s with sg := { s.sg with cropEn := v.getLsbD 0 } }) ∧
    (off = 0x18 → hostWrite off v s = .next { s with sg := { s.sg with cropW := v } }) ∧
    (off = 0x1C → hostWrite off v s = .next { s with sg := { s.sg with cropH := v } }) ∧
    (off = 0x20 → hostWrite off v s = .next { s with spd := { s.spd with addr := v } }) ∧
    (off = 0x24 → hostWrite off v s = .next { s with spd := { s.spd with stride := v } }) ∧
    (off = 0x28 → hostWrite off v s = .next { s with dstAddr := v }) ∧
    (off = 0x2C → hostWrite off v s = .next { s with dstCap := v })

/-- R103: `WR` to a read-only register or a reserved offset is ignored. -/
def Obligations.WriteToReadOnlyIsIgnored : Prop :=
  ∀ (s : State) (off : Nat) (v : Word), off % 4 = 0 → (off = 0x04 ∨ (0x30 ≤ off ∧ off < 0x80)) →
    hostWrite off v s = .next s

/-- R106, R65, U10: a window access that is not an aligned 32-bit one below 0x80 is refused by name. -/
def Obligations.UndefinedWindowAccessIsRefused : Prop :=
  ∀ (s : State) (off : Nat) (v : Word),
    hostOtherAccess off s = .refused (.undefinedWindowAccess off) ∧
    (off % 4 ≠ 0 ∨ 0x80 ≤ off →
      hostWrite off v s = .refused (.undefinedWindowAccess off) ∧
      hostRead off s = .refused (.undefinedWindowAccess off))

/-- R6, R24: whatever the platform's PLX_BASE, a 32-bit bus write or read inside the 0x80-byte window is
the transaction at its offset from PLX_BASE, and a bus address outside the window is none of this block's.
That the model holds PLX_BASE as a constant without a value is its own choice (log entry 14). -/
def Obligations.BusAddressesSelectOffsets : Prop :=
  ∀ (a : Nat) (v : Word),
    (∀ off, off < 0x80 → a = Config.plxBase + off → busWrite a v = some (.wr off v) ∧ busRead a = some (.rd off)) ∧
    (a < Config.plxBase ∨ Config.plxBase + 0x80 ≤ a → busWrite a v = none ∧ busRead a = none)

/-! ### Memory and reset (20_memory.md, 70_reset_and_hazards.md) -/

/-- R43, R67, R72: a host store sets exactly its byte, and a host load returns the byte and changes nothing
else. That the host's accesses are events of the model, and that an address of 2^32 or above faults, is
the model's choice (log entry 4). -/
def Obligations.HostAccessesToMemory : Prop :=
  ∀ (s : State) (addr : Nat) (b : Byte), s.mem.wf = true →
    (addr < 2 ^ 32 →
      (∃ m, hostStore addr b s = .next { s with mem := m } ∧
        m.read addr = b ∧ ∀ a, a ≠ addr → m.read a = s.mem.read a) ∧
      hostLoad addr s = .next { s with reply := .byte (s.mem.read addr) }) ∧
    (2 ^ 32 ≤ addr →
      hostStore addr b s = .fault (.noSuchAddress addr) ∧ hostLoad addr s = .fault (.noSuchAddress addr))

/-- R210, R211: hardware reset between commands leaves the block at its reset values and M alone. That the
host's program goes on behind it is the model's choice (log entry 8). -/
def Obligations.HardwareResetKeepsMemory : Prop :=
  ∀ (s : State) (rest : List HostEvent), s.pending = .hwReset :: rest →
    ∃ t, step s = .next t ∧ BlockIsReset t ∧ t.mem = s.mem ∧ t.pending = rest ∧ t.reply = .nothing

/-- R211, U13: a hardware reset that abandons a command leaves the block at its reset values; only an
EXTRACT whose checks had passed may have changed bytes, and those lie in its destination range. The bytes
there are free: the statement says nothing of them (log entry 9). -/
def Obligations.AbandonedCommandIsReset : Prop :=
  ∀ (s : State) (w : Word) (rest : List HostEvent), s.mem.wf = true →
    s.pending = .cmdCutByReset w :: rest →
    (decode w ≠ .ok .extract ∨ s.state = .halted ∨ ¬ NoCause s ∨ FrameDisjoint s) →
    ∃ t, step s = .next t ∧ BlockIsReset t ∧ t.pending = rest ∧ t.mem.wf = true ∧
      ∀ a, ¬ (decode w = .ok .extract ∧ s.state ≠ .halted ∧ NoCause s ∧ InDestination s.g s.dstAddr a) →
        t.mem.read a = s.mem.read a

/-! ### Invariants (10_state.md R45) -/

/-- R44, R45: the reset state satisfies every invariant, and its registers and flags are all zero. -/
def Obligations.ResetStateSatisfiesInvariants : Prop :=
  SessionInv State.reset ∧ ResultsMatchGeometry State.reset ∧ State.reset.mem.wf = true ∧
    BlockIsReset State.reset

/-- R45 items 1 to 7: every step keeps them, from every state that has them. -/
def Obligations.StepKeepsSessionInvariant : Prop :=
  ∀ s t : State, SessionInv s → step s = .next t → SessionInv t

/-- 44_downstream_contract.md R160 (b), (c): every step keeps the agreement of the reported results with the active geometry. -/
def Obligations.StepKeepsResultsMatchGeometry : Prop :=
  ∀ s t : State, ResultsMatchGeometry s → step s = .next t → ResultsMatchGeometry t

/-- R43, R69: every step keeps M in its canonical form: no address of 2^32 or above is ever listed. -/
def Obligations.StepKeepsMemoryCanonical : Prop :=
  ∀ s t : State, s.mem.wf = true → step s = .next t → t.mem.wf = true

/-- R45 item 8: right after a non-rejected EXTRACT or CONFIGURE no descriptor is valid and BADPLANE is
0. -/
def Obligations.NoFrameAfterConfigureOrExtract : Prop :=
  ∀ (s t : State) (i : Instr), s.state ≠ .halted → (i = .configure ∨ i = .extract) →
    exec i s = .next t → (∀ p, (t.pd.get p).valid = false) ∧ t.badPlane = false

/-- 44_downstream_contract.md R163: the results stay as they are until a non-rejected EXTRACT or CONFIGURE or
a reset: any event that is no reset and no CMD write of either word leaves them. A CMD write of either word
that is rejected leaves them too: `CmdWriteRejectsOrExecutes`, `HaltedRejectsFrameAndSessionCommands`. -/
def Obligations.ResultsStayUntilNextFrame : Prop :=
  ∀ (s t : State) (e : HostEvent) (rest : List HostEvent), s.pending = e :: rest → step s = .next t →
    ¬ IsReset e → e ≠ .wr 0x00 0x00000001#32 → e ≠ .wr 0x00 0x00000003#32 →
    t.outValid = s.outValid ∧ t.outLen = s.outLen ∧ t.outAddr = s.outAddr ∧ t.pr = s.pr ∧
      t.err = s.err ∧ t.cause = s.cause
end

