-- ==== Sys2Proof/Laws/Memory.lean ====
section
/-! SUPPORT. What the operations over M do: read after write, the canonical form, and the byte moves. -/

namespace Sys2Proof.Machine

@[simp] theorem Memory.read_nil (a : Nat) : Memory.read [] a = unlistedByte := rfl

/-- Reading below every listed address finds nothing listed. -/
theorem Memory.read_below (m : Memory) (a : Nat) (h : ∀ c ∈ m, a < c.1) : m.read a = unlistedByte := by
  induction m with
  | nil => rfl
  | cons c rest ih =>
    have hc := h c (by simp)
    rw [Memory.read, if_neg (by omega)]
    exact ih fun d hd => h d (by simp [hd])

/-- The canonical form, part by part. -/
theorem Memory.wf_iff (m : Memory) :
    m.wf = true ↔ m.Pairwise (fun x y => x.1 < y.1) ∧
      ∀ c ∈ m, c.1 < Config.memBytes ∧ c.2 ≠ unlistedByte := by
  simp only [Memory.wf, Bool.and_eq_true, decide_eq_true_eq, List.all_eq_true]

theorem Memory.wf_nil : Memory.wf [] = true := rfl

/-- Which addresses a written memory may list. -/
theorem Memory.mem_write (m : Memory) (a : Nat) (v : Byte) (c : Host.Cell) (h : c ∈ m.write a v) :
    c ∈ m ∨ (c = (a, v) ∧ v ≠ unlistedByte) := by
  induction m with
  | nil =>
    simp only [Memory.write] at h
    split at h <;> simp_all
  | cons d rest ih =>
    simp only [Memory.write] at h
    split at h
    · split at h
      · exact .inl h
      · simp only [List.mem_cons] at h ⊢
        tauto
    · split at h
      · split at h
        · exact .inl (List.mem_cons_of_mem d h)
        · simp only [List.mem_cons] at h ⊢
          tauto
      · rcases List.mem_cons.mp h with rfl | h
        · simp
        · rcases ih h with h | h <;> simp [h]

/-- A write keeps the canonical form. -/
theorem Memory.write_wf (m : Memory) (a : Nat) (v : Byte) (ha : a < Config.memBytes) (h : m.wf = true) :
    (m.write a v).wf = true := by
  rw [Memory.wf_iff] at h ⊢
  obtain ⟨hs, hb⟩ := h
  refine ⟨?_, fun c hc => ?_⟩
  · clear hb
    induction m with
    | nil =>
      simp only [Memory.write]
      split <;> simp
    | cons d rest ih =>
      obtain ⟨hd, hr⟩ := List.pairwise_cons.mp hs
      simp only [Memory.write]
      split
      · split
        · exact hs
        · refine List.pairwise_cons.mpr ⟨fun e he => ?_, hs⟩
          rcases List.mem_cons.mp he with rfl | he
          · assumption
          · have := hd e he
            dsimp only
            omega
      · split
        · split
          · exact hr
          · refine List.pairwise_cons.mpr ⟨fun e he => ?_, hr⟩
            have := hd e he
            dsimp only
            omega
        · refine List.pairwise_cons.mpr ⟨fun e he => ?_, ih hr⟩
          rcases Memory.mem_write rest a v e he with he | ⟨rfl, -⟩
          · exact hd e he
          · dsimp only
            omega
  · rcases Memory.mem_write m a v c hc with hc | ⟨rfl, hv⟩
    · exact hb c hc
    · exact ⟨ha, hv⟩

/-- Read after write, at every address: the one lemma about `Memory.write`. -/
theorem Memory.read_write (m : Memory) (a : Nat) (v : Byte) (h : m.wf = true) (x : Nat) :
    (m.write a v).read x = if x = a then v else m.read x := by
  have hs := ((Memory.wf_iff m).mp h).1
  clear h
  induction m with
  | nil =>
    simp only [Memory.write]
    split
    · split <;> simp_all
    · simp [Memory.read]
  | cons d rest ih =>
    obtain ⟨hd, hr⟩ := List.pairwise_cons.mp hs
    have hlow : ∀ y, y ≤ d.1 → Memory.read rest y = unlistedByte := fun y hy =>
      Memory.read_below rest y fun e he => by have := hd e he; omega
    simp only [Memory.write]
    split
    · split
      · by_cases hx : x = a
        · subst hx
          simp only [Memory.read, if_true]
          rw [if_neg (by omega), hlow x (by omega)]
          simp_all
        · simp [hx]
      · by_cases hx : x = a <;> simp [Memory.read, hx]
    · split
      · next _ heq =>
        split
        · by_cases hx : x = a
          · subst hx
            rw [hlow x (by omega)]
            simp_all
          · simp only [Memory.read, hx, if_false]
            rw [if_neg (by omega)]
        · by_cases hx : x = a
          · simp [Memory.read, hx]
          · simp only [Memory.read, hx, if_false]
            rw [if_neg (by omega)]
      · by_cases hx : x = d.1
        · simp only [Memory.read, hx, if_true]
          rw [if_neg (by omega)]
        · simp only [Memory.read, hx, if_false]
          exact ih hr

/-- Equal reads, equal memories: the canonical form is canonical. -/
theorem Memory.eq_of_read_eq (m n : Memory) (hm : m.wf = true) (hn : n.wf = true)
    (h : ∀ a, m.read a = n.read a) : m = n := by
  rw [Memory.wf_iff] at hm hn
  obtain ⟨hms, hmb⟩ := hm
  obtain ⟨hns, hnb⟩ := hn
  induction m generalizing n with
  | nil =>
    cases n with
    | nil => rfl
    | cons d rest =>
      have := h d.1
      simp only [Memory.read, if_true] at this
      exact absurd this.symm (hnb d (by simp)).2
  | cons c rest ih =>
    obtain ⟨hc, hr⟩ := List.pairwise_cons.mp hms
    cases n with
    | nil =>
      have := h c.1
      simp only [Memory.read, if_true] at this
      exact absurd this (hmb c (by simp)).2
    | cons d rest' =>
      obtain ⟨hd, hr'⟩ := List.pairwise_cons.mp hns
      have below : ∀ (m : Memory) (x : Nat), (∀ e ∈ m, x < e.1) → m.read x = unlistedByte :=
        Memory.read_below
      have hcd : c.1 = d.1 := by
        rcases Nat.lt_trichotomy c.1 d.1 with hlt | heq | hgt
        · have := h c.1
          simp only [Memory.read, if_true] at this
          rw [if_neg (by omega), below rest' c.1 fun e he => by have := hd e he; omega] at this
          exact absurd this (hmb c (by simp)).2
        · exact heq
        · have := h d.1
          simp only [Memory.read, if_true] at this
          rw [if_neg (by omega), below rest d.1 fun e he => by have := hc e he; omega] at this
          exact absurd this.symm (hnb d (by simp)).2
      have hv : c.2 = d.2 := by
        have := h c.1
        simpa only [Memory.read, if_true, hcd] using this
      have hrest : rest = rest' := by
        refine ih rest' (fun a => ?_) hr (fun e he => hmb e (by simp [he])) hr'
          (fun e he => hnb e (by simp [he]))
        have ha := h a
        by_cases hac : a = c.1
        · rw [below rest a fun e he => by have := hc e he; omega,
            below rest' a fun e he => by have := hd e he; omega]
        · simpa only [Memory.read, hac, if_false, show ¬ a = d.1 by omega] using ha
      rw [hrest, Prod.ext hcd hv]

/-! ### Byte moves -/

theorem Memory.move_wf (m : Memory) (sd : Nat × Nat) (hd : sd.2 < Config.memBytes) (h : m.wf = true) :
    (m.move sd).wf = true := Memory.write_wf m sd.2 _ hd h

/-- Byte moves keep the canonical form. -/
theorem Memory.moveAll_wf (moves : List (Nat × Nat)) (m : Memory) (h : m.wf = true)
    (hd : ∀ sd ∈ moves, sd.2 < Config.memBytes) : (m.moveAll moves).wf = true := by
  induction moves generalizing m with
  | nil => exact h
  | cons sd rest ih =>
    exact ih (m.move sd) (Memory.move_wf m sd (hd sd (by simp)) h) fun e he => hd e (by simp [he])

/-- Byte moves leave every address that is no destination alone. -/
theorem Memory.moveAll_read_other (moves : List (Nat × Nat)) (m : Memory) (h : m.wf = true)
    (hd : ∀ sd ∈ moves, sd.2 < Config.memBytes) (a : Nat) (ha : ∀ sd ∈ moves, sd.2 ≠ a) :
    (m.moveAll moves).read a = m.read a := by
  induction moves generalizing m with
  | nil => rfl
  | cons sd rest ih =>
    have hne := ha sd (by simp)
    rw [Memory.moveAll, List.foldl_cons, ← Memory.moveAll,
      ih (m.move sd) (Memory.move_wf m sd (hd sd (by simp)) h) (fun e he => hd e (by simp [he]))
        (fun e he => ha e (by simp [he])),
      Memory.move, Memory.read_write m _ _ h, if_neg (fun e => hne e.symm)]

/-- What byte moves do when no source is a destination and no destination is written twice: each
destination gets the byte its source held before (42_frame_commands.md R134). -/
theorem Memory.moveAll_read_dest (moves : List (Nat × Nat)) (m : Memory) (h : m.wf = true)
    (hd : ∀ sd ∈ moves, sd.2 < Config.memBytes) (hnd : (moves.map Prod.snd).Nodup)
    (hdis : ∀ x ∈ moves, ∀ y ∈ moves, x.1 ≠ y.2) (sd : Nat × Nat) (hsd : sd ∈ moves) :
    (m.moveAll moves).read sd.2 = m.read sd.1 := by
  induction moves generalizing m with
  | nil => simp at hsd
  | cons e rest ih =>
    have hwf := Memory.move_wf m e (hd e (by simp)) h
    have hd' : ∀ x ∈ rest, x.2 < Config.memBytes := fun x hx => hd x (by simp [hx])
    rw [List.map_cons, List.nodup_cons] at hnd
    rw [Memory.moveAll, List.foldl_cons, ← Memory.moveAll]
    rcases List.mem_cons.mp hsd with rfl | hmem
    · rw [Memory.moveAll_read_other rest _ hwf hd' sd.2
        (fun x hx heq => hnd.1 (List.mem_map.mpr ⟨x, hx, heq⟩)),
        Memory.move, Memory.read_write m _ _ h, if_pos rfl]
    · rw [ih (m.move e) hwf hd' hnd.2 (fun x hx y hy => hdis x (by simp [hx]) y (by simp [hy])) hmem,
        Memory.move, Memory.read_write m _ _ h, if_neg (hdis sd hsd e (by simp))]

/-! ### Free bytes -/

/-- Free bytes keep the canonical form, whatever they are. -/
theorem Memory.scramble_wf (addrs : List Nat) (m : Memory) (n : Nat) (h : m.wf = true)
    (hd : ∀ a ∈ addrs, a < Config.memBytes) : (m.scramble n addrs).wf = true := by
  induction addrs generalizing m with
  | nil => exact h
  | cons a rest ih =>
    exact ih _ (Memory.write_wf m a _ (hd a (by simp)) h) fun e he => hd e (by simp [he])

/-- Free bytes fall on the listed addresses only. -/
theorem Memory.scramble_read_other (addrs : List Nat) (m : Memory) (n : Nat) (h : m.wf = true)
    (hd : ∀ a ∈ addrs, a < Config.memBytes) (x : Nat) (hx : x ∉ addrs) :
    (m.scramble n addrs).read x = m.read x := by
  induction addrs generalizing m with
  | nil => rfl
  | cons a rest ih =>
    simp only [List.mem_cons, not_or] at hx
    rw [Memory.scramble, List.foldl_cons, ← Memory.scramble,
      ih _ (Memory.write_wf m a _ (hd a (by simp)) h) (fun e he => hd e (by simp [he])) hx.2,
      Memory.read_write m _ _ h, if_neg hx.1]

end Sys2Proof.Machine
end

