-- ==== Sys2Proof/Laws/State.lean ====
section
/-! SUPPORT. One lemma per field per update of State, each true by rfl: no proof unfolds a record update. -/

namespace Sys2Proof.Machine

/-! ### `State.withState` -/

@[simp] theorem State.withState_state (s : State) (x : SessionState) : (s.withState x).state = x := rfl
@[simp] theorem State.withState_sg (s : State) (x : SessionState) : (s.withState x).sg = s.sg := rfl
@[simp] theorem State.withState_g (s : State) (x : SessionState) : (s.withState x).g = s.g := rfl
@[simp] theorem State.withState_spd (s : State) (x : SessionState) : (s.withState x).spd = s.spd := rfl
@[simp] theorem State.withState_pd (s : State) (x : SessionState) : (s.withState x).pd = s.pd := rfl
@[simp] theorem State.withState_badPlane (s : State) (x : SessionState) : (s.withState x).badPlane = s.badPlane := rfl
@[simp] theorem State.withState_dstAddr (s : State) (x : SessionState) : (s.withState x).dstAddr = s.dstAddr := rfl
@[simp] theorem State.withState_dstCap (s : State) (x : SessionState) : (s.withState x).dstCap = s.dstCap := rfl
@[simp] theorem State.withState_err (s : State) (x : SessionState) : (s.withState x).err = s.err := rfl
@[simp] theorem State.withState_cause (s : State) (x : SessionState) : (s.withState x).cause = s.cause := rfl
@[simp] theorem State.withState_outValid (s : State) (x : SessionState) : (s.withState x).outValid = s.outValid := rfl
@[simp] theorem State.withState_outLen (s : State) (x : SessionState) : (s.withState x).outLen = s.outLen := rfl
@[simp] theorem State.withState_outAddr (s : State) (x : SessionState) : (s.withState x).outAddr = s.outAddr := rfl
@[simp] theorem State.withState_pr (s : State) (x : SessionState) : (s.withState x).pr = s.pr := rfl
@[simp] theorem State.withState_cmdErr (s : State) (x : SessionState) : (s.withState x).cmdErr = s.cmdErr := rfl
@[simp] theorem State.withState_mem (s : State) (x : SessionState) : (s.withState x).mem = s.mem := rfl
@[simp] theorem State.withState_pending (s : State) (x : SessionState) : (s.withState x).pending = s.pending := rfl
@[simp] theorem State.withState_reply (s : State) (x : SessionState) : (s.withState x).reply = s.reply := rfl
@[simp] theorem State.withState_freeCount (s : State) (x : SessionState) : (s.withState x).freeCount = s.freeCount := rfl

/-! ### `State.withCmdErr` -/

@[simp] theorem State.withCmdErr_state (s : State) (x : Bool) : (s.withCmdErr x).state = s.state := rfl
@[simp] theorem State.withCmdErr_sg (s : State) (x : Bool) : (s.withCmdErr x).sg = s.sg := rfl
@[simp] theorem State.withCmdErr_g (s : State) (x : Bool) : (s.withCmdErr x).g = s.g := rfl
@[simp] theorem State.withCmdErr_spd (s : State) (x : Bool) : (s.withCmdErr x).spd = s.spd := rfl
@[simp] theorem State.withCmdErr_pd (s : State) (x : Bool) : (s.withCmdErr x).pd = s.pd := rfl
@[simp] theorem State.withCmdErr_badPlane (s : State) (x : Bool) : (s.withCmdErr x).badPlane = s.badPlane := rfl
@[simp] theorem State.withCmdErr_dstAddr (s : State) (x : Bool) : (s.withCmdErr x).dstAddr = s.dstAddr := rfl
@[simp] theorem State.withCmdErr_dstCap (s : State) (x : Bool) : (s.withCmdErr x).dstCap = s.dstCap := rfl
@[simp] theorem State.withCmdErr_err (s : State) (x : Bool) : (s.withCmdErr x).err = s.err := rfl
@[simp] theorem State.withCmdErr_cause (s : State) (x : Bool) : (s.withCmdErr x).cause = s.cause := rfl
@[simp] theorem State.withCmdErr_outValid (s : State) (x : Bool) : (s.withCmdErr x).outValid = s.outValid := rfl
@[simp] theorem State.withCmdErr_outLen (s : State) (x : Bool) : (s.withCmdErr x).outLen = s.outLen := rfl
@[simp] theorem State.withCmdErr_outAddr (s : State) (x : Bool) : (s.withCmdErr x).outAddr = s.outAddr := rfl
@[simp] theorem State.withCmdErr_pr (s : State) (x : Bool) : (s.withCmdErr x).pr = s.pr := rfl
@[simp] theorem State.withCmdErr_cmdErr (s : State) (x : Bool) : (s.withCmdErr x).cmdErr = x := rfl
@[simp] theorem State.withCmdErr_mem (s : State) (x : Bool) : (s.withCmdErr x).mem = s.mem := rfl
@[simp] theorem State.withCmdErr_pending (s : State) (x : Bool) : (s.withCmdErr x).pending = s.pending := rfl
@[simp] theorem State.withCmdErr_reply (s : State) (x : Bool) : (s.withCmdErr x).reply = s.reply := rfl
@[simp] theorem State.withCmdErr_freeCount (s : State) (x : Bool) : (s.withCmdErr x).freeCount = s.freeCount := rfl

/-! ### `State.withError` -/

@[simp] theorem State.withError_state (s : State) (e : ErrCode) (c : Cause) : (s.withError e c).state = s.state := rfl
@[simp] theorem State.withError_sg (s : State) (e : ErrCode) (c : Cause) : (s.withError e c).sg = s.sg := rfl
@[simp] theorem State.withError_g (s : State) (e : ErrCode) (c : Cause) : (s.withError e c).g = s.g := rfl
@[simp] theorem State.withError_spd (s : State) (e : ErrCode) (c : Cause) : (s.withError e c).spd = s.spd := rfl
@[simp] theorem State.withError_pd (s : State) (e : ErrCode) (c : Cause) : (s.withError e c).pd = s.pd := rfl
@[simp] theorem State.withError_badPlane (s : State) (e : ErrCode) (c : Cause) : (s.withError e c).badPlane = s.badPlane := rfl
@[simp] theorem State.withError_dstAddr (s : State) (e : ErrCode) (c : Cause) : (s.withError e c).dstAddr = s.dstAddr := rfl
@[simp] theorem State.withError_dstCap (s : State) (e : ErrCode) (c : Cause) : (s.withError e c).dstCap = s.dstCap := rfl
@[simp] theorem State.withError_err (s : State) (e : ErrCode) (c : Cause) : (s.withError e c).err = e := rfl
@[simp] theorem State.withError_cause (s : State) (e : ErrCode) (c : Cause) : (s.withError e c).cause = c := rfl
@[simp] theorem State.withError_outValid (s : State) (e : ErrCode) (c : Cause) : (s.withError e c).outValid = s.outValid := rfl
@[simp] theorem State.withError_outLen (s : State) (e : ErrCode) (c : Cause) : (s.withError e c).outLen = s.outLen := rfl
@[simp] theorem State.withError_outAddr (s : State) (e : ErrCode) (c : Cause) : (s.withError e c).outAddr = s.outAddr := rfl
@[simp] theorem State.withError_pr (s : State) (e : ErrCode) (c : Cause) : (s.withError e c).pr = s.pr := rfl
@[simp] theorem State.withError_cmdErr (s : State) (e : ErrCode) (c : Cause) : (s.withError e c).cmdErr = s.cmdErr := rfl
@[simp] theorem State.withError_mem (s : State) (e : ErrCode) (c : Cause) : (s.withError e c).mem = s.mem := rfl
@[simp] theorem State.withError_pending (s : State) (e : ErrCode) (c : Cause) : (s.withError e c).pending = s.pending := rfl
@[simp] theorem State.withError_reply (s : State) (e : ErrCode) (c : Cause) : (s.withError e c).reply = s.reply := rfl
@[simp] theorem State.withError_freeCount (s : State) (e : ErrCode) (c : Cause) : (s.withError e c).freeCount = s.freeCount := rfl

/-! ### `State.withoutResults` -/

@[simp] theorem State.withoutResults_state (s : State) : (s.withoutResults).state = s.state := rfl
@[simp] theorem State.withoutResults_sg (s : State) : (s.withoutResults).sg = s.sg := rfl
@[simp] theorem State.withoutResults_g (s : State) : (s.withoutResults).g = s.g := rfl
@[simp] theorem State.withoutResults_spd (s : State) : (s.withoutResults).spd = s.spd := rfl
@[simp] theorem State.withoutResults_pd (s : State) : (s.withoutResults).pd = s.pd := rfl
@[simp] theorem State.withoutResults_badPlane (s : State) : (s.withoutResults).badPlane = s.badPlane := rfl
@[simp] theorem State.withoutResults_dstAddr (s : State) : (s.withoutResults).dstAddr = s.dstAddr := rfl
@[simp] theorem State.withoutResults_dstCap (s : State) : (s.withoutResults).dstCap = s.dstCap := rfl
@[simp] theorem State.withoutResults_err (s : State) : (s.withoutResults).err = s.err := rfl
@[simp] theorem State.withoutResults_cause (s : State) : (s.withoutResults).cause = s.cause := rfl
@[simp] theorem State.withoutResults_outValid (s : State) : (s.withoutResults).outValid = false := rfl
@[simp] theorem State.withoutResults_outLen (s : State) : (s.withoutResults).outLen = 0#32 := rfl
@[simp] theorem State.withoutResults_outAddr (s : State) : (s.withoutResults).outAddr = 0#32 := rfl
@[simp] theorem State.withoutResults_pr (s : State) : (s.withoutResults).pr = PerPlane.replicate PlaneRange.zero := rfl
@[simp] theorem State.withoutResults_cmdErr (s : State) : (s.withoutResults).cmdErr = s.cmdErr := rfl
@[simp] theorem State.withoutResults_mem (s : State) : (s.withoutResults).mem = s.mem := rfl
@[simp] theorem State.withoutResults_pending (s : State) : (s.withoutResults).pending = s.pending := rfl
@[simp] theorem State.withoutResults_reply (s : State) : (s.withoutResults).reply = s.reply := rfl
@[simp] theorem State.withoutResults_freeCount (s : State) : (s.withoutResults).freeCount = s.freeCount := rfl

/-! ### `State.withResults` -/

@[simp] theorem State.withResults_state (s : State) (n a : Word) (r : PerPlane PlaneRange) : (s.withResults n a r).state = s.state := rfl
@[simp] theorem State.withResults_sg (s : State) (n a : Word) (r : PerPlane PlaneRange) : (s.withResults n a r).sg = s.sg := rfl
@[simp] theorem State.withResults_g (s : State) (n a : Word) (r : PerPlane PlaneRange) : (s.withResults n a r).g = s.g := rfl
@[simp] theorem State.withResults_spd (s : State) (n a : Word) (r : PerPlane PlaneRange) : (s.withResults n a r).spd = s.spd := rfl
@[simp] theorem State.withResults_pd (s : State) (n a : Word) (r : PerPlane PlaneRange) : (s.withResults n a r).pd = s.pd := rfl
@[simp] theorem State.withResults_badPlane (s : State) (n a : Word) (r : PerPlane PlaneRange) : (s.withResults n a r).badPlane = s.badPlane := rfl
@[simp] theorem State.withResults_dstAddr (s : State) (n a : Word) (r : PerPlane PlaneRange) : (s.withResults n a r).dstAddr = s.dstAddr := rfl
@[simp] theorem State.withResults_dstCap (s : State) (n a : Word) (r : PerPlane PlaneRange) : (s.withResults n a r).dstCap = s.dstCap := rfl
@[simp] theorem State.withResults_err (s : State) (n a : Word) (r : PerPlane PlaneRange) : (s.withResults n a r).err = s.err := rfl
@[simp] theorem State.withResults_cause (s : State) (n a : Word) (r : PerPlane PlaneRange) : (s.withResults n a r).cause = s.cause := rfl
@[simp] theorem State.withResults_outValid (s : State) (n a : Word) (r : PerPlane PlaneRange) : (s.withResults n a r).outValid = true := rfl
@[simp] theorem State.withResults_outLen (s : State) (n a : Word) (r : PerPlane PlaneRange) : (s.withResults n a r).outLen = n := rfl
@[simp] theorem State.withResults_outAddr (s : State) (n a : Word) (r : PerPlane PlaneRange) : (s.withResults n a r).outAddr = a := rfl
@[simp] theorem State.withResults_pr (s : State) (n a : Word) (r : PerPlane PlaneRange) : (s.withResults n a r).pr = r := rfl
@[simp] theorem State.withResults_cmdErr (s : State) (n a : Word) (r : PerPlane PlaneRange) : (s.withResults n a r).cmdErr = s.cmdErr := rfl
@[simp] theorem State.withResults_mem (s : State) (n a : Word) (r : PerPlane PlaneRange) : (s.withResults n a r).mem = s.mem := rfl
@[simp] theorem State.withResults_pending (s : State) (n a : Word) (r : PerPlane PlaneRange) : (s.withResults n a r).pending = s.pending := rfl
@[simp] theorem State.withResults_reply (s : State) (n a : Word) (r : PerPlane PlaneRange) : (s.withResults n a r).reply = s.reply := rfl
@[simp] theorem State.withResults_freeCount (s : State) (n a : Word) (r : PerPlane PlaneRange) : (s.withResults n a r).freeCount = s.freeCount := rfl

/-! ### `State.withoutFrame` -/

@[simp] theorem State.withoutFrame_state (s : State) : (s.withoutFrame).state = s.state := rfl
@[simp] theorem State.withoutFrame_sg (s : State) : (s.withoutFrame).sg = s.sg := rfl
@[simp] theorem State.withoutFrame_g (s : State) : (s.withoutFrame).g = s.g := rfl
@[simp] theorem State.withoutFrame_spd (s : State) : (s.withoutFrame).spd = s.spd := rfl
@[simp] theorem State.withoutFrame_pd (s : State) : (s.withoutFrame).pd = PerPlane.replicate PlaneEntry.zero := rfl
@[simp] theorem State.withoutFrame_badPlane (s : State) : (s.withoutFrame).badPlane = false := rfl
@[simp] theorem State.withoutFrame_dstAddr (s : State) : (s.withoutFrame).dstAddr = s.dstAddr := rfl
@[simp] theorem State.withoutFrame_dstCap (s : State) : (s.withoutFrame).dstCap = s.dstCap := rfl
@[simp] theorem State.withoutFrame_err (s : State) : (s.withoutFrame).err = s.err := rfl
@[simp] theorem State.withoutFrame_cause (s : State) : (s.withoutFrame).cause = s.cause := rfl
@[simp] theorem State.withoutFrame_outValid (s : State) : (s.withoutFrame).outValid = s.outValid := rfl
@[simp] theorem State.withoutFrame_outLen (s : State) : (s.withoutFrame).outLen = s.outLen := rfl
@[simp] theorem State.withoutFrame_outAddr (s : State) : (s.withoutFrame).outAddr = s.outAddr := rfl
@[simp] theorem State.withoutFrame_pr (s : State) : (s.withoutFrame).pr = s.pr := rfl
@[simp] theorem State.withoutFrame_cmdErr (s : State) : (s.withoutFrame).cmdErr = s.cmdErr := rfl
@[simp] theorem State.withoutFrame_mem (s : State) : (s.withoutFrame).mem = s.mem := rfl
@[simp] theorem State.withoutFrame_pending (s : State) : (s.withoutFrame).pending = s.pending := rfl
@[simp] theorem State.withoutFrame_reply (s : State) : (s.withoutFrame).reply = s.reply := rfl
@[simp] theorem State.withoutFrame_freeCount (s : State) : (s.withoutFrame).freeCount = s.freeCount := rfl

/-! ### `State.withGeometryCommitted` -/

@[simp] theorem State.withGeometryCommitted_state (s : State) : (s.withGeometryCommitted).state = s.state := rfl
@[simp] theorem State.withGeometryCommitted_sg (s : State) : (s.withGeometryCommitted).sg = s.sg := rfl
@[simp] theorem State.withGeometryCommitted_g (s : State) : (s.withGeometryCommitted).g = s.sg := rfl
@[simp] theorem State.withGeometryCommitted_spd (s : State) : (s.withGeometryCommitted).spd = s.spd := rfl
@[simp] theorem State.withGeometryCommitted_pd (s : State) : (s.withGeometryCommitted).pd = s.pd := rfl
@[simp] theorem State.withGeometryCommitted_badPlane (s : State) : (s.withGeometryCommitted).badPlane = s.badPlane := rfl
@[simp] theorem State.withGeometryCommitted_dstAddr (s : State) : (s.withGeometryCommitted).dstAddr = s.dstAddr := rfl
@[simp] theorem State.withGeometryCommitted_dstCap (s : State) : (s.withGeometryCommitted).dstCap = s.dstCap := rfl
@[simp] theorem State.withGeometryCommitted_err (s : State) : (s.withGeometryCommitted).err = s.err := rfl
@[simp] theorem State.withGeometryCommitted_cause (s : State) : (s.withGeometryCommitted).cause = s.cause := rfl
@[simp] theorem State.withGeometryCommitted_outValid (s : State) : (s.withGeometryCommitted).outValid = s.outValid := rfl
@[simp] theorem State.withGeometryCommitted_outLen (s : State) : (s.withGeometryCommitted).outLen = s.outLen := rfl
@[simp] theorem State.withGeometryCommitted_outAddr (s : State) : (s.withGeometryCommitted).outAddr = s.outAddr := rfl
@[simp] theorem State.withGeometryCommitted_pr (s : State) : (s.withGeometryCommitted).pr = s.pr := rfl
@[simp] theorem State.withGeometryCommitted_cmdErr (s : State) : (s.withGeometryCommitted).cmdErr = s.cmdErr := rfl
@[simp] theorem State.withGeometryCommitted_mem (s : State) : (s.withGeometryCommitted).mem = s.mem := rfl
@[simp] theorem State.withGeometryCommitted_pending (s : State) : (s.withGeometryCommitted).pending = s.pending := rfl
@[simp] theorem State.withGeometryCommitted_reply (s : State) : (s.withGeometryCommitted).reply = s.reply := rfl
@[simp] theorem State.withGeometryCommitted_freeCount (s : State) : (s.withGeometryCommitted).freeCount = s.freeCount := rfl

/-! ### `State.withPlane` -/

@[simp] theorem State.withPlane_state (s : State) (p : Plane) : (s.withPlane p).state = s.state := rfl
@[simp] theorem State.withPlane_sg (s : State) (p : Plane) : (s.withPlane p).sg = s.sg := rfl
@[simp] theorem State.withPlane_g (s : State) (p : Plane) : (s.withPlane p).g = s.g := rfl
@[simp] theorem State.withPlane_spd (s : State) (p : Plane) : (s.withPlane p).spd = s.spd := rfl
@[simp] theorem State.withPlane_pd (s : State) (p : Plane) : (s.withPlane p).pd = s.pd.set p { valid := true, addr := s.spd.addr, stride := s.spd.stride } := rfl
@[simp] theorem State.withPlane_badPlane (s : State) (p : Plane) : (s.withPlane p).badPlane = s.badPlane := rfl
@[simp] theorem State.withPlane_dstAddr (s : State) (p : Plane) : (s.withPlane p).dstAddr = s.dstAddr := rfl
@[simp] theorem State.withPlane_dstCap (s : State) (p : Plane) : (s.withPlane p).dstCap = s.dstCap := rfl
@[simp] theorem State.withPlane_err (s : State) (p : Plane) : (s.withPlane p).err = s.err := rfl
@[simp] theorem State.withPlane_cause (s : State) (p : Plane) : (s.withPlane p).cause = s.cause := rfl
@[simp] theorem State.withPlane_outValid (s : State) (p : Plane) : (s.withPlane p).outValid = s.outValid := rfl
@[simp] theorem State.withPlane_outLen (s : State) (p : Plane) : (s.withPlane p).outLen = s.outLen := rfl
@[simp] theorem State.withPlane_outAddr (s : State) (p : Plane) : (s.withPlane p).outAddr = s.outAddr := rfl
@[simp] theorem State.withPlane_pr (s : State) (p : Plane) : (s.withPlane p).pr = s.pr := rfl
@[simp] theorem State.withPlane_cmdErr (s : State) (p : Plane) : (s.withPlane p).cmdErr = s.cmdErr := rfl
@[simp] theorem State.withPlane_mem (s : State) (p : Plane) : (s.withPlane p).mem = s.mem := rfl
@[simp] theorem State.withPlane_pending (s : State) (p : Plane) : (s.withPlane p).pending = s.pending := rfl
@[simp] theorem State.withPlane_reply (s : State) (p : Plane) : (s.withPlane p).reply = s.reply := rfl
@[simp] theorem State.withPlane_freeCount (s : State) (p : Plane) : (s.withPlane p).freeCount = s.freeCount := rfl

/-! ### `State.withBadPlane` -/

@[simp] theorem State.withBadPlane_state (s : State) : (s.withBadPlane).state = s.state := rfl
@[simp] theorem State.withBadPlane_sg (s : State) : (s.withBadPlane).sg = s.sg := rfl
@[simp] theorem State.withBadPlane_g (s : State) : (s.withBadPlane).g = s.g := rfl
@[simp] theorem State.withBadPlane_spd (s : State) : (s.withBadPlane).spd = s.spd := rfl
@[simp] theorem State.withBadPlane_pd (s : State) : (s.withBadPlane).pd = s.pd := rfl
@[simp] theorem State.withBadPlane_badPlane (s : State) : (s.withBadPlane).badPlane = true := rfl
@[simp] theorem State.withBadPlane_dstAddr (s : State) : (s.withBadPlane).dstAddr = s.dstAddr := rfl
@[simp] theorem State.withBadPlane_dstCap (s : State) : (s.withBadPlane).dstCap = s.dstCap := rfl
@[simp] theorem State.withBadPlane_err (s : State) : (s.withBadPlane).err = s.err := rfl
@[simp] theorem State.withBadPlane_cause (s : State) : (s.withBadPlane).cause = s.cause := rfl
@[simp] theorem State.withBadPlane_outValid (s : State) : (s.withBadPlane).outValid = s.outValid := rfl
@[simp] theorem State.withBadPlane_outLen (s : State) : (s.withBadPlane).outLen = s.outLen := rfl
@[simp] theorem State.withBadPlane_outAddr (s : State) : (s.withBadPlane).outAddr = s.outAddr := rfl
@[simp] theorem State.withBadPlane_pr (s : State) : (s.withBadPlane).pr = s.pr := rfl
@[simp] theorem State.withBadPlane_cmdErr (s : State) : (s.withBadPlane).cmdErr = s.cmdErr := rfl
@[simp] theorem State.withBadPlane_mem (s : State) : (s.withBadPlane).mem = s.mem := rfl
@[simp] theorem State.withBadPlane_pending (s : State) : (s.withBadPlane).pending = s.pending := rfl
@[simp] theorem State.withBadPlane_reply (s : State) : (s.withBadPlane).reply = s.reply := rfl
@[simp] theorem State.withBadPlane_freeCount (s : State) : (s.withBadPlane).freeCount = s.freeCount := rfl

/-! ### `State.withMem` -/

@[simp] theorem State.withMem_state (s : State) (m : Memory) : (s.withMem m).state = s.state := rfl
@[simp] theorem State.withMem_sg (s : State) (m : Memory) : (s.withMem m).sg = s.sg := rfl
@[simp] theorem State.withMem_g (s : State) (m : Memory) : (s.withMem m).g = s.g := rfl
@[simp] theorem State.withMem_spd (s : State) (m : Memory) : (s.withMem m).spd = s.spd := rfl
@[simp] theorem State.withMem_pd (s : State) (m : Memory) : (s.withMem m).pd = s.pd := rfl
@[simp] theorem State.withMem_badPlane (s : State) (m : Memory) : (s.withMem m).badPlane = s.badPlane := rfl
@[simp] theorem State.withMem_dstAddr (s : State) (m : Memory) : (s.withMem m).dstAddr = s.dstAddr := rfl
@[simp] theorem State.withMem_dstCap (s : State) (m : Memory) : (s.withMem m).dstCap = s.dstCap := rfl
@[simp] theorem State.withMem_err (s : State) (m : Memory) : (s.withMem m).err = s.err := rfl
@[simp] theorem State.withMem_cause (s : State) (m : Memory) : (s.withMem m).cause = s.cause := rfl
@[simp] theorem State.withMem_outValid (s : State) (m : Memory) : (s.withMem m).outValid = s.outValid := rfl
@[simp] theorem State.withMem_outLen (s : State) (m : Memory) : (s.withMem m).outLen = s.outLen := rfl
@[simp] theorem State.withMem_outAddr (s : State) (m : Memory) : (s.withMem m).outAddr = s.outAddr := rfl
@[simp] theorem State.withMem_pr (s : State) (m : Memory) : (s.withMem m).pr = s.pr := rfl
@[simp] theorem State.withMem_cmdErr (s : State) (m : Memory) : (s.withMem m).cmdErr = s.cmdErr := rfl
@[simp] theorem State.withMem_mem (s : State) (m : Memory) : (s.withMem m).mem = m := rfl
@[simp] theorem State.withMem_pending (s : State) (m : Memory) : (s.withMem m).pending = s.pending := rfl
@[simp] theorem State.withMem_reply (s : State) (m : Memory) : (s.withMem m).reply = s.reply := rfl
@[simp] theorem State.withMem_freeCount (s : State) (m : Memory) : (s.withMem m).freeCount = s.freeCount := rfl

/-! ### `State.withReply` -/

@[simp] theorem State.withReply_state (s : State) (r : Reply) : (s.withReply r).state = s.state := rfl
@[simp] theorem State.withReply_sg (s : State) (r : Reply) : (s.withReply r).sg = s.sg := rfl
@[simp] theorem State.withReply_g (s : State) (r : Reply) : (s.withReply r).g = s.g := rfl
@[simp] theorem State.withReply_spd (s : State) (r : Reply) : (s.withReply r).spd = s.spd := rfl
@[simp] theorem State.withReply_pd (s : State) (r : Reply) : (s.withReply r).pd = s.pd := rfl
@[simp] theorem State.withReply_badPlane (s : State) (r : Reply) : (s.withReply r).badPlane = s.badPlane := rfl
@[simp] theorem State.withReply_dstAddr (s : State) (r : Reply) : (s.withReply r).dstAddr = s.dstAddr := rfl
@[simp] theorem State.withReply_dstCap (s : State) (r : Reply) : (s.withReply r).dstCap = s.dstCap := rfl
@[simp] theorem State.withReply_err (s : State) (r : Reply) : (s.withReply r).err = s.err := rfl
@[simp] theorem State.withReply_cause (s : State) (r : Reply) : (s.withReply r).cause = s.cause := rfl
@[simp] theorem State.withReply_outValid (s : State) (r : Reply) : (s.withReply r).outValid = s.outValid := rfl
@[simp] theorem State.withReply_outLen (s : State) (r : Reply) : (s.withReply r).outLen = s.outLen := rfl
@[simp] theorem State.withReply_outAddr (s : State) (r : Reply) : (s.withReply r).outAddr = s.outAddr := rfl
@[simp] theorem State.withReply_pr (s : State) (r : Reply) : (s.withReply r).pr = s.pr := rfl
@[simp] theorem State.withReply_cmdErr (s : State) (r : Reply) : (s.withReply r).cmdErr = s.cmdErr := rfl
@[simp] theorem State.withReply_mem (s : State) (r : Reply) : (s.withReply r).mem = s.mem := rfl
@[simp] theorem State.withReply_pending (s : State) (r : Reply) : (s.withReply r).pending = s.pending := rfl
@[simp] theorem State.withReply_reply (s : State) (r : Reply) : (s.withReply r).reply = r := rfl
@[simp] theorem State.withReply_freeCount (s : State) (r : Reply) : (s.withReply r).freeCount = s.freeCount := rfl

/-! ### `State.withFreeDrawn` -/

@[simp] theorem State.withFreeDrawn_state (s : State) : (s.withFreeDrawn).state = s.state := rfl
@[simp] theorem State.withFreeDrawn_sg (s : State) : (s.withFreeDrawn).sg = s.sg := rfl
@[simp] theorem State.withFreeDrawn_g (s : State) : (s.withFreeDrawn).g = s.g := rfl
@[simp] theorem State.withFreeDrawn_spd (s : State) : (s.withFreeDrawn).spd = s.spd := rfl
@[simp] theorem State.withFreeDrawn_pd (s : State) : (s.withFreeDrawn).pd = s.pd := rfl
@[simp] theorem State.withFreeDrawn_badPlane (s : State) : (s.withFreeDrawn).badPlane = s.badPlane := rfl
@[simp] theorem State.withFreeDrawn_dstAddr (s : State) : (s.withFreeDrawn).dstAddr = s.dstAddr := rfl
@[simp] theorem State.withFreeDrawn_dstCap (s : State) : (s.withFreeDrawn).dstCap = s.dstCap := rfl
@[simp] theorem State.withFreeDrawn_err (s : State) : (s.withFreeDrawn).err = s.err := rfl
@[simp] theorem State.withFreeDrawn_cause (s : State) : (s.withFreeDrawn).cause = s.cause := rfl
@[simp] theorem State.withFreeDrawn_outValid (s : State) : (s.withFreeDrawn).outValid = s.outValid := rfl
@[simp] theorem State.withFreeDrawn_outLen (s : State) : (s.withFreeDrawn).outLen = s.outLen := rfl
@[simp] theorem State.withFreeDrawn_outAddr (s : State) : (s.withFreeDrawn).outAddr = s.outAddr := rfl
@[simp] theorem State.withFreeDrawn_pr (s : State) : (s.withFreeDrawn).pr = s.pr := rfl
@[simp] theorem State.withFreeDrawn_cmdErr (s : State) : (s.withFreeDrawn).cmdErr = s.cmdErr := rfl
@[simp] theorem State.withFreeDrawn_mem (s : State) : (s.withFreeDrawn).mem = s.mem := rfl
@[simp] theorem State.withFreeDrawn_pending (s : State) : (s.withFreeDrawn).pending = s.pending := rfl
@[simp] theorem State.withFreeDrawn_reply (s : State) : (s.withFreeDrawn).reply = s.reply := rfl
@[simp] theorem State.withFreeDrawn_freeCount (s : State) : (s.withFreeDrawn).freeCount = s.freeCount + 1 := rfl

/-! ### `State.rejected` -/

@[simp] theorem State.rejected_state (s : State) : (s.rejected).state = s.state := rfl
@[simp] theorem State.rejected_sg (s : State) : (s.rejected).sg = s.sg := rfl
@[simp] theorem State.rejected_g (s : State) : (s.rejected).g = s.g := rfl
@[simp] theorem State.rejected_spd (s : State) : (s.rejected).spd = s.spd := rfl
@[simp] theorem State.rejected_pd (s : State) : (s.rejected).pd = s.pd := rfl
@[simp] theorem State.rejected_badPlane (s : State) : (s.rejected).badPlane = s.badPlane := rfl
@[simp] theorem State.rejected_dstAddr (s : State) : (s.rejected).dstAddr = s.dstAddr := rfl
@[simp] theorem State.rejected_dstCap (s : State) : (s.rejected).dstCap = s.dstCap := rfl
@[simp] theorem State.rejected_err (s : State) : (s.rejected).err = s.err := rfl
@[simp] theorem State.rejected_cause (s : State) : (s.rejected).cause = s.cause := rfl
@[simp] theorem State.rejected_outValid (s : State) : (s.rejected).outValid = s.outValid := rfl
@[simp] theorem State.rejected_outLen (s : State) : (s.rejected).outLen = s.outLen := rfl
@[simp] theorem State.rejected_outAddr (s : State) : (s.rejected).outAddr = s.outAddr := rfl
@[simp] theorem State.rejected_pr (s : State) : (s.rejected).pr = s.pr := rfl
@[simp] theorem State.rejected_cmdErr (s : State) : (s.rejected).cmdErr = true := rfl
@[simp] theorem State.rejected_mem (s : State) : (s.rejected).mem = s.mem := rfl
@[simp] theorem State.rejected_pending (s : State) : (s.rejected).pending = s.pending := rfl
@[simp] theorem State.rejected_reply (s : State) : (s.rejected).reply = s.reply := rfl
@[simp] theorem State.rejected_freeCount (s : State) : (s.rejected).freeCount = s.freeCount := rfl

/-! ### `State.blockReset` -/

@[simp] theorem State.blockReset_state (s : State) : (s.blockReset).state = State.reset.state := rfl
@[simp] theorem State.blockReset_sg (s : State) : (s.blockReset).sg = State.reset.sg := rfl
@[simp] theorem State.blockReset_g (s : State) : (s.blockReset).g = State.reset.g := rfl
@[simp] theorem State.blockReset_spd (s : State) : (s.blockReset).spd = State.reset.spd := rfl
@[simp] theorem State.blockReset_pd (s : State) : (s.blockReset).pd = State.reset.pd := rfl
@[simp] theorem State.blockReset_badPlane (s : State) : (s.blockReset).badPlane = State.reset.badPlane := rfl
@[simp] theorem State.blockReset_dstAddr (s : State) : (s.blockReset).dstAddr = State.reset.dstAddr := rfl
@[simp] theorem State.blockReset_dstCap (s : State) : (s.blockReset).dstCap = State.reset.dstCap := rfl
@[simp] theorem State.blockReset_err (s : State) : (s.blockReset).err = State.reset.err := rfl
@[simp] theorem State.blockReset_cause (s : State) : (s.blockReset).cause = State.reset.cause := rfl
@[simp] theorem State.blockReset_outValid (s : State) : (s.blockReset).outValid = State.reset.outValid := rfl
@[simp] theorem State.blockReset_outLen (s : State) : (s.blockReset).outLen = State.reset.outLen := rfl
@[simp] theorem State.blockReset_outAddr (s : State) : (s.blockReset).outAddr = State.reset.outAddr := rfl
@[simp] theorem State.blockReset_pr (s : State) : (s.blockReset).pr = State.reset.pr := rfl
@[simp] theorem State.blockReset_cmdErr (s : State) : (s.blockReset).cmdErr = State.reset.cmdErr := rfl
@[simp] theorem State.blockReset_mem (s : State) : (s.blockReset).mem = s.mem := rfl
@[simp] theorem State.blockReset_pending (s : State) : (s.blockReset).pending = s.pending := rfl
@[simp] theorem State.blockReset_reply (s : State) : (s.blockReset).reply = s.reply := rfl
@[simp] theorem State.blockReset_freeCount (s : State) : (s.blockReset).freeCount = s.freeCount := rfl

/-! ### `fail` -/

@[simp] theorem fail_state (s : State) (e : ErrCode) (c : Cause) (x : SessionState) : (fail e c x s).state = if e = .frameMapError then .halted else x := rfl
@[simp] theorem fail_sg (s : State) (e : ErrCode) (c : Cause) (x : SessionState) : (fail e c x s).sg = s.sg := rfl
@[simp] theorem fail_g (s : State) (e : ErrCode) (c : Cause) (x : SessionState) : (fail e c x s).g = s.g := rfl
@[simp] theorem fail_spd (s : State) (e : ErrCode) (c : Cause) (x : SessionState) : (fail e c x s).spd = s.spd := rfl
@[simp] theorem fail_pd (s : State) (e : ErrCode) (c : Cause) (x : SessionState) : (fail e c x s).pd = PerPlane.replicate PlaneEntry.zero := rfl
@[simp] theorem fail_badPlane (s : State) (e : ErrCode) (c : Cause) (x : SessionState) : (fail e c x s).badPlane = false := rfl
@[simp] theorem fail_dstAddr (s : State) (e : ErrCode) (c : Cause) (x : SessionState) : (fail e c x s).dstAddr = s.dstAddr := rfl
@[simp] theorem fail_dstCap (s : State) (e : ErrCode) (c : Cause) (x : SessionState) : (fail e c x s).dstCap = s.dstCap := rfl
@[simp] theorem fail_err (s : State) (e : ErrCode) (c : Cause) (x : SessionState) : (fail e c x s).err = e := rfl
@[simp] theorem fail_cause (s : State) (e : ErrCode) (c : Cause) (x : SessionState) : (fail e c x s).cause = c := rfl
@[simp] theorem fail_outValid (s : State) (e : ErrCode) (c : Cause) (x : SessionState) : (fail e c x s).outValid = false := rfl
@[simp] theorem fail_outLen (s : State) (e : ErrCode) (c : Cause) (x : SessionState) : (fail e c x s).outLen = 0#32 := rfl
@[simp] theorem fail_outAddr (s : State) (e : ErrCode) (c : Cause) (x : SessionState) : (fail e c x s).outAddr = 0#32 := rfl
@[simp] theorem fail_pr (s : State) (e : ErrCode) (c : Cause) (x : SessionState) : (fail e c x s).pr = PerPlane.replicate PlaneRange.zero := rfl
@[simp] theorem fail_cmdErr (s : State) (e : ErrCode) (c : Cause) (x : SessionState) : (fail e c x s).cmdErr = s.cmdErr := rfl
@[simp] theorem fail_mem (s : State) (e : ErrCode) (c : Cause) (x : SessionState) : (fail e c x s).mem = s.mem := rfl
@[simp] theorem fail_pending (s : State) (e : ErrCode) (c : Cause) (x : SessionState) : (fail e c x s).pending = s.pending := rfl
@[simp] theorem fail_reply (s : State) (e : ErrCode) (c : Cause) (x : SessionState) : (fail e c x s).reply = s.reply := rfl
@[simp] theorem fail_freeCount (s : State) (e : ErrCode) (c : Cause) (x : SessionState) : (fail e c x s).freeCount = s.freeCount := rfl

/-! ### Field values after reset (10_state.md R44) -/

@[simp] theorem State.reset_state : State.reset.state = .unconfigured := rfl
@[simp] theorem State.reset_sg : State.reset.sg = Geometry.zero := rfl
@[simp] theorem State.reset_g : State.reset.g = Geometry.zero := rfl
@[simp] theorem State.reset_spd : State.reset.spd = ⟨0#32, 0#32⟩ := rfl
@[simp] theorem State.reset_pd : State.reset.pd = PerPlane.replicate PlaneEntry.zero := rfl
@[simp] theorem State.reset_badPlane : State.reset.badPlane = false := rfl
@[simp] theorem State.reset_dstAddr : State.reset.dstAddr = 0#32 := rfl
@[simp] theorem State.reset_dstCap : State.reset.dstCap = 0#32 := rfl
@[simp] theorem State.reset_err : State.reset.err = .noError := rfl
@[simp] theorem State.reset_cause : State.reset.cause = .noError := rfl
@[simp] theorem State.reset_outValid : State.reset.outValid = false := rfl
@[simp] theorem State.reset_outLen : State.reset.outLen = 0#32 := rfl
@[simp] theorem State.reset_outAddr : State.reset.outAddr = 0#32 := rfl
@[simp] theorem State.reset_pr : State.reset.pr = PerPlane.replicate PlaneRange.zero := rfl
@[simp] theorem State.reset_cmdErr : State.reset.cmdErr = false := rfl
@[simp] theorem State.reset_mem : State.reset.mem = [] := rfl
@[simp] theorem State.reset_pending : State.reset.pending = [] := rfl
@[simp] theorem State.reset_reply : State.reset.reply = .nothing := rfl
@[simp] theorem State.reset_freeCount : State.reset.freeCount = 0 := rfl

/-! ### Tables indexed by plane -/

@[simp] theorem PerPlane.get_replicate {α : Type} (x : α) (p : Plane) : (PerPlane.replicate x).get p = x := by
  cases p <;> rfl

@[simp] theorem PerPlane.get_ofPlane {α : Type} (f : Plane → α) (p : Plane) : (PerPlane.ofPlane f).get p = f p := by
  cases p <;> rfl

theorem PerPlane.get_set {α : Type} (t : PerPlane α) (p q : Plane) (x : α) :
    (t.set p x).get q = if q = p then x else t.get q := by
  cases p <;> cases q <;> rfl

@[simp] theorem PerPlane.get_set_same {α : Type} (t : PerPlane α) (p : Plane) (x : α) : (t.set p x).get p = x := by
  cases p <;> rfl

@[simp] theorem PerPlane.get_p0 {α : Type} (t : PerPlane α) : t.get .p0 = t.p0 := rfl
@[simp] theorem PerPlane.get_p1 {α : Type} (t : PerPlane α) : t.get .p1 = t.p1 := rfl
@[simp] theorem PerPlane.get_p2 {α : Type} (t : PerPlane α) : t.get .p2 = t.p2 := rfl

theorem PerPlane.ext_get {α : Type} (t u : PerPlane α) (h : ∀ p, t.get p = u.get p) : t = u := by
  cases t
  cases u
  exact (PerPlane.mk.injEq ..).mpr ⟨h .p0, h .p1, h .p2⟩

@[simp] theorem Plane.mem_all (p : Plane) : p ∈ Plane.all := by cases p <;> decide

end Sys2Proof.Machine
end

