-- ==== Sys2Proof/Laws/Operands.lean ====
section
/-! SUPPORT. What EXTRACT's operand functions compute: the order of the checks, the byte moves and where
they go, when footprint and destination meet (42_frame_commands.md R122 to R139). -/

namespace Sys2Proof.Machine

/-! ### Formats and parity -/

theorem PixelFormat.ofCode_eq_some (c : Byte) (f : PixelFormat) :
    PixelFormat.ofCode c = some f ↔ (c = 1#8 ∧ f = .i420) ∨ (c = 2#8 ∧ f = .yv12) := by
  unfold PixelFormat.ofCode
  split
  · next h => subst h; cases f <;> simp
  · split
    · next h => subst h; cases f <;> simp
    · simp_all

theorem PixelFormat.ofCode_eq_none (c : Byte) :
    PixelFormat.ofCode c = none ↔ c ≠ 1#8 ∧ c ≠ 2#8 := by
  unfold PixelFormat.ofCode
  split
  · simp_all
  · split <;> simp_all

theorem isOdd_eq (v : Word) : isOdd v = decide (v.toNat % 2 = 1) := by
  simp [isOdd, BitVec.getLsbD, Nat.testBit_zero]

theorem hasOddDimension_iff (g : Geometry) :
    hasOddDimension g = true ↔ g.width.toNat % 2 = 1 ∨ g.height.toNat % 2 = 1 ∨
      (g.cropEn = true ∧ (g.cropW.toNat % 2 = 1 ∨ g.cropH.toNat % 2 = 1)) := by
  simp [hasOddDimension, isOdd_eq, or_assoc]

theorem descriptorsMissing_iff (pd : PerPlane PlaneEntry) :
    descriptorsMissing pd = true ↔ ∃ p, (pd.get p).valid = false := by
  simp [descriptorsMissing]

theorem strideBelowWidth_iff (g : Geometry) (pd : PerPlane PlaneEntry) :
    strideBelowWidth g pd = true ↔ ∃ p, (pd.get p).stride.toNat < planeW g p := by
  simp [strideBelowWidth]

theorem sourceOutsideMemory_iff (g : Geometry) (pd : PerPlane PlaneEntry) :
    sourceOutsideMemory g pd = true ↔
      ∃ p, 0 < planeW g p ∧ 0 < planeH g p ∧ Config.memBytes < srcEnd g pd p := by
  simp only [sourceOutsideMemory, List.any_eq_true, Plane.mem_all, true_and, Bool.and_eq_true,
    decide_eq_true_eq, and_assoc]

/-! ### Sizes -/

/-- The length formula of R125. -/
theorem bufLen_eq (g : Geometry) : bufLen g = effW g * effH g + 2 * ((effW g / 2) * (effH g / 2)) := by
  simp only [bufLen, planeSize, planeW, planeH]
  omega

theorem planeOff_add_planeSize_le (g : Geometry) (p : Plane) : planeOff g p + planeSize g p ≤ bufLen g := by
  cases p <;> simp only [planeOff, bufLen] <;> omega

/-- Every byte of a plane's segment is in the destination range. -/
theorem dstByte_inDestination (g : Geometry) (dst : Word) (p : Plane) (r c : Nat)
    (hr : r < planeH g p) (hc : c < planeW g p) : InDestination g dst (dstByte g dst p r c) := by
  have h1 := planeOff_add_planeSize_le g p
  have h2 : (r + 1) * planeW g p ≤ planeH g p * planeW g p := Nat.mul_le_mul_right _ hr
  have h3 : planeSize g p = planeH g p * planeW g p := by rw [planeSize, Nat.mul_comm]
  rw [Nat.succ_mul] at h2
  constructor <;> simp only [dstByte] <;> omega

/-! ### The checks -/

/-- The checks pass exactly when every condition of R126 to R132 holds. -/
theorem frameCheck_eq_ok (s : State) (f : PixelFormat) :
    frameCheck s = .ok f ↔
      PixelFormat.ofCode s.g.format = some f ∧ s.badPlane = false ∧ hasOddDimension s.g = false ∧
      descriptorsMissing s.pd = false ∧ strideBelowWidth s.g s.pd = false ∧
      sourceOutsideMemory s.g s.pd = false ∧ bufLen s.g ≤ s.dstCap.toNat ∧
      s.dstAddr.toNat + bufLen s.g ≤ Config.memBytes := by
  unfold frameCheck
  cases PixelFormat.ofCode s.g.format with
  | none => simp
  | some f' =>
    simp only [Option.some.injEq]
    constructor
    · intro h
      repeat' split at h
      all_goals simp_all
    · rintro ⟨rfl, h1, h2, h3, h4, h5, h6, h7⟩
      simp [h1, h2, h3, h4, h5, Nat.not_lt.mpr h6, Nat.not_lt.mpr h7]

/-- Where the checks pass, every offset, size and the length fit a 32-bit register (R125, R150). -/
theorem frameCheck_ok_fits (s : State) (f : PixelFormat) (h : frameCheck s = .ok f) (p : Plane) :
    planeOff s.g p < 2 ^ 32 ∧ planeSize s.g p < 2 ^ 32 ∧ bufLen s.g < 2 ^ 32 := by
  obtain ⟨-, -, -, -, -, -, hcap, -⟩ := (frameCheck_eq_ok s f).mp h
  have := planeOff_add_planeSize_le s.g p
  have := s.dstCap.isLt
  omega

/-- A check never fails with the two causes the state gate and success own. -/
theorem frameCheck_error_ne (s : State) (c : Cause) (h : frameCheck s = .error c) :
    c ≠ .noError ∧ c ≠ .notConfigured := by
  unfold frameCheck at h
  repeat' split at h
  all_goals first
    | (injection h with h; subst h; exact ⟨by decide, by decide⟩)
    | cases h

/-- The checks read only G, BADPLANE, PD, DST_ADDR and DST_CAP (R188). -/
theorem frameCheck_congr (s t : State) (hg : t.g = s.g) (hb : t.badPlane = s.badPlane) (hp : t.pd = s.pd)
    (hd : t.dstAddr = s.dstAddr) (hc : t.dstCap = s.dstCap) : frameCheck t = frameCheck s := by
  unfold frameCheck
  rw [hg, hb, hp, hd, hc]

@[simp] theorem frameCheck_withState (s : State) (x : SessionState) :
    frameCheck (s.withState x) = frameCheck s := frameCheck_congr _ _ rfl rfl rfl rfl rfl

@[simp] theorem frameCheck_withCmdErr (s : State) (x : Bool) :
    frameCheck (s.withCmdErr x) = frameCheck s := frameCheck_congr _ _ rfl rfl rfl rfl rfl

/-! ### The byte moves -/

/-- Which moves there are: one for each byte of each plane (R134). -/
theorem mem_frameMoves (g : Geometry) (pd : PerPlane PlaneEntry) (dst : Word) (m : Nat × Nat) :
    m ∈ frameMoves g pd dst ↔
      ∃ p r c, r < planeH g p ∧ c < planeW g p ∧ m = (srcAddr (pd.get p) r c, dstByte g dst p r c) := by
  simp only [frameMoves, planeMoves, rowMoves, List.mem_flatMap, List.mem_map, List.mem_range,
    Plane.mem_all, true_and]
  constructor
  · rintro ⟨p, r, hr, c, hc, rfl⟩
    exact ⟨p, r, c, hr, hc, rfl⟩
  · rintro ⟨p, r, c, hr, hc, rfl⟩
    exact ⟨p, r, hr, c, hc, rfl⟩

/-- Rows of width `w` laid out one after the other cover `h * w` consecutive addresses. -/
theorem rows_flatten (base w h : Nat) :
    (List.range h).flatMap (fun r => (List.range w).map fun c => base + r * w + c) =
      (List.range (h * w)).map (base + ·) := by
  induction h with
  | zero => simp
  | succ h ih =>
    rw [List.range_succ, List.flatMap_append, ih, Nat.succ_mul, List.range_add, List.map_append]
    simp [List.map_map, Function.comp_def, Nat.add_assoc]

/-- The destinations of a plane's moves are its segment, ascending. -/
theorem planeMoves_snd (g : Geometry) (pd : PerPlane PlaneEntry) (dst : Word) (p : Plane) :
    (planeMoves g pd dst p).map Prod.snd =
      (List.range (planeSize g p)).map (dst.toNat + planeOff g p + ·) := by
  rw [planeSize, Nat.mul_comm, ← rows_flatten]
  simp [planeMoves, rowMoves, List.map_flatMap, Function.comp_def, dstByte]

/-- The destinations of the frame's moves are the destination range, ascending, without a gap (R125). -/
theorem frameMoves_snd (g : Geometry) (pd : PerPlane PlaneEntry) (dst : Word) :
    (frameMoves g pd dst).map Prod.snd = destinationAddrs g dst := by
  simp only [frameMoves, Plane.all, List.flatMap_cons, List.flatMap_nil, List.append_nil, List.map_append,
    planeMoves_snd, destinationAddrs, bufLen, List.range_add, List.map_map, planeOff]
  simp [Function.comp_def, Nat.add_assoc]

theorem mem_destinationAddrs (g : Geometry) (dst : Word) (a : Nat) :
    a ∈ destinationAddrs g dst ↔ InDestination g dst a := by
  simp only [destinationAddrs, List.mem_map, List.mem_range, InDestination]
  constructor
  · rintro ⟨k, hk, rfl⟩
    omega
  · rintro ⟨h1, h2⟩
    exact ⟨a - dst.toNat, by omega, by omega⟩

theorem destinationAddrs_nodup (g : Geometry) (dst : Word) : (destinationAddrs g dst).Nodup := by
  refine List.Nodup.map (fun x y h => ?_) List.nodup_range
  simpa using h

/-- Every destination of a move is in the destination range. -/
theorem frameMoves_inDestination (g : Geometry) (pd : PerPlane PlaneEntry) (dst : Word) (m : Nat × Nat)
    (h : m ∈ frameMoves g pd dst) : InDestination g dst m.2 := by
  obtain ⟨p, r, c, hr, hc, rfl⟩ := (mem_frameMoves g pd dst m).mp h
  exact dstByte_inDestination g dst p r c hr hc

/-- Every destination address is the destination of some byte of some plane: no gap (R125). -/
theorem exists_dstByte (g : Geometry) (pd : PerPlane PlaneEntry) (dst : Word) (a : Nat)
    (h : InDestination g dst a) :
    ∃ p r c, r < planeH g p ∧ c < planeW g p ∧ a = dstByte g dst p r c := by
  rw [← mem_destinationAddrs, ← frameMoves_snd g pd dst, List.mem_map] at h
  obtain ⟨m, hm, rfl⟩ := h
  obtain ⟨p, r, c, hr, hc, rfl⟩ := (mem_frameMoves g pd dst m).mp hm
  exact ⟨p, r, c, hr, hc, rfl⟩

/-! ### Footprint and destination -/

/-- `overlaps` says whether some byte is in both the footprint and the destination range (R133). -/
theorem overlaps_iff (g : Geometry) (pd : PerPlane PlaneEntry) (dst : Word) :
    overlaps g pd dst = true ↔ ∃ a, InFootprint g pd a ∧ InDestination g dst a := by
  simp only [overlaps, List.any_eq_true, Plane.mem_all, true_and, List.mem_range, Bool.and_eq_true,
    decide_eq_true_eq, InFootprint, InDestination]
  constructor
  · rintro ⟨p, r, hr, ⟨hw, h1⟩, h2⟩
    have hlen : planeW g p ≤ bufLen g := by
      have h3 : planeSize g p = planeH g p * planeW g p := by rw [planeSize, Nat.mul_comm]
      have h4 : 1 * planeW g p ≤ planeH g p * planeW g p := Nat.mul_le_mul_right _ (by omega)
      have h5 := planeOff_add_planeSize_le g p
      omega
    simp only [srcAddr] at h1 h2
    refine ⟨max (srcAddr (pd.get p) r 0) dst.toNat,
      ⟨p, r, max (srcAddr (pd.get p) r 0) dst.toNat - srcAddr (pd.get p) r 0, hr, ?_, ?_⟩, ?_, ?_⟩ <;>
      simp only [srcAddr] <;> omega
  · rintro ⟨a, ⟨p, r, c, hr, hc, rfl⟩, h1, h2⟩
    simp only [srcAddr] at h1 h2
    refine ⟨p, r, hr, ⟨by omega, ?_⟩, ?_⟩ <;> simp only [srcAddr] <;> omega

theorem overlaps_eq_false (g : Geometry) (pd : PerPlane PlaneEntry) (dst : Word) :
    overlaps g pd dst = false ↔ ∀ a, InFootprint g pd a → ¬ InDestination g dst a := by
  rw [← Bool.not_eq_true, overlaps_iff]
  simp only [not_exists, not_and]

/-! ### The copy -/

/-- The copy of a frame, at every address: bytes of the destination range come from the source, the rest
of M stays (R134). -/
theorem copy_frame (m : Memory) (g : Geometry) (pd : PerPlane PlaneEntry) (dst : Word) (h : m.wf = true)
    (hfit : dst.toNat + bufLen g ≤ Config.memBytes) (hdis : overlaps g pd dst = false) :
    (m.moveAll (frameMoves g pd dst)).wf = true ∧
    (∀ p r c, r < planeH g p → c < planeW g p →
      (m.moveAll (frameMoves g pd dst)).read (dstByte g dst p r c) = m.read (srcAddr (pd.get p) r c)) ∧
    (∀ a, ¬ InDestination g dst a → (m.moveAll (frameMoves g pd dst)).read a = m.read a) := by
  have hd : ∀ sd ∈ frameMoves g pd dst, sd.2 < Config.memBytes := fun sd hsd => by
    have := frameMoves_inDestination g pd dst sd hsd
    simp only [InDestination] at this
    omega
  refine ⟨Memory.moveAll_wf _ m h hd, fun p r c hr hc => ?_, fun a ha => ?_⟩
  · refine Memory.moveAll_read_dest (frameMoves g pd dst) m h hd ?_ ?_
      (srcAddr (pd.get p) r c, dstByte g dst p r c) ((mem_frameMoves g pd dst _).mpr ⟨p, r, c, hr, hc, rfl⟩)
    · rw [frameMoves_snd]
      exact destinationAddrs_nodup g dst
    · intro x hx y hy heq
      obtain ⟨p', r', c', hr', hc', rfl⟩ := (mem_frameMoves g pd dst x).mp hx
      have hy' := frameMoves_inDestination g pd dst y hy
      rw [← heq] at hy'
      exact (overlaps_eq_false g pd dst).mp hdis _ ⟨p', r', c', hr', hc', rfl⟩ hy'
  · exact Memory.moveAll_read_other _ m h hd a fun sd hsd heq =>
      ha (heq ▸ frameMoves_inDestination g pd dst sd hsd)

end Sys2Proof.Machine
end

