-- ==== Sys2Proof/Laws/Commands.lean ====
section
/-! SUPPORT. What a command and a step can do, said once: one inversion lemma per shared operation, which
later proofs cite instead of unfolding it. -/

namespace Sys2Proof.Machine

/-! ### Acceptance and failure -/

theorem acceptUnlessHalted_halted (s : State) (body : State → Result) (h : s.state = .halted) :
    acceptUnlessHalted s body = .next s.rejected := by
  rw [acceptUnlessHalted, if_pos h]

theorem acceptUnlessHalted_accepted (s : State) (body : State → Result) (h : s.state ≠ .halted) :
    acceptUnlessHalted s body = body (s.withCmdErr false) := by
  rw [acceptUnlessHalted, if_neg h]

/-- Everything the gate can do: reject, or run the body. -/
theorem acceptUnlessHalted_cases (s t : State) (body : State → Result)
    (h : acceptUnlessHalted s body = .next t) :
    (s.state = .halted ∧ t = s.rejected) ∨ (s.state ≠ .halted ∧ body (s.withCmdErr false) = .next t) := by
  by_cases hs : s.state = .halted
  · rw [acceptUnlessHalted_halted s body hs] at h
    injection h with h
    exact .inl ⟨hs, h.symm⟩
  · rw [acceptUnlessHalted_accepted s body hs] at h
    exact .inr ⟨hs, h⟩

/-- The state a failing EXTRACT leads to: Halted for FrameMapError, else the one it began in (R186). -/
theorem fail_state_halted (c : Cause) (x : SessionState) (s : State) :
    (fail .frameMapError c x s).state = .halted := rfl

/-! ### The four commands -/

/-- CONFIGURE where it is accepted (R110). -/
def configured (s : State) : State :=
  (((((s.withCmdErr false).withGeometryCommitted).withoutFrame).withError .noError .noError).withoutResults).withState
    .configured

theorem execConfigure_accepted (s : State) (h : s.state ≠ .halted) :
    execConfigure s = .next (configured s) := by
  rw [execConfigure, acceptUnlessHalted_accepted s _ h, configured]

theorem execConfigure_cases (s t : State) (h : execConfigure s = .next t) :
    (s.state = .halted ∧ t = s.rejected) ∨ (s.state ≠ .halted ∧ t = configured s) := by
  rcases acceptUnlessHalted_cases s t _ h with h | ⟨hs, h⟩
  · exact .inl h
  · injection h with h
    exact .inr ⟨hs, h.symm⟩

theorem execSetplane_stored (s : State) (idx : Nat) (p : Plane) (h : s.state ≠ .halted)
    (hp : planeOfIndex idx = some p) :
    execSetplane idx s = .next ((s.withCmdErr false).withPlane p) := by
  simp only [execSetplane, acceptUnlessHalted_accepted s _ h, hp]

theorem execSetplane_badPlane (s : State) (idx : Nat) (h : s.state ≠ .halted)
    (hp : planeOfIndex idx = none) :
    execSetplane idx s = .next (s.withCmdErr false).withBadPlane := by
  simp only [execSetplane, acceptUnlessHalted_accepted s _ h, hp]

theorem execSetplane_cases (s t : State) (idx : Nat) (h : execSetplane idx s = .next t) :
    (s.state = .halted ∧ t = s.rejected) ∨
    (s.state ≠ .halted ∧ ∃ p, planeOfIndex idx = some p ∧ t = (s.withCmdErr false).withPlane p) ∨
    (s.state ≠ .halted ∧ planeOfIndex idx = none ∧ t = (s.withCmdErr false).withBadPlane) := by
  rcases acceptUnlessHalted_cases s t _ h with h | ⟨hs, h⟩
  · exact .inl h
  · cases hp : planeOfIndex idx with
    | some p =>
      rw [hp] at h
      injection h with h
      exact .inr (.inl ⟨hs, p, rfl, h.symm⟩)
    | none =>
      rw [hp] at h
      injection h with h
      exact .inr (.inr ⟨hs, rfl, h.symm⟩)

/-- Everything EXTRACT can do when it answers a next state: be rejected, fail at the state gate, fail a
check, or pack the frame (R121). -/
theorem execExtract_cases (s t : State) (h : execExtract s = .next t) :
    (s.state = .halted ∧ t = s.rejected) ∨
    (s.state = .unconfigured ∧
      t = fail .unsupportedFormat .notConfigured .unconfigured (s.withCmdErr false)) ∨
    (s.state ≠ .halted ∧ s.state ≠ .unconfigured ∧ ∃ c, frameCheck s = .error c ∧
      t = fail c.err c s.state ((s.withCmdErr false).withState .processing)) ∨
    (s.state ≠ .halted ∧ s.state ≠ .unconfigured ∧ ∃ f, frameCheck s = .ok f ∧
      overlaps s.g s.pd s.dstAddr = false ∧ t = packed f ((s.withCmdErr false).withState .processing)) := by
  rcases acceptUnlessHalted_cases s t _ h with h | ⟨hs, h⟩
  · exact .inl h
  · simp only [State.withCmdErr_state, frameCheck_withState, frameCheck_withCmdErr] at h
    split at h
    · next hu =>
      injection h with h
      exact .inr (.inl ⟨hu, by rw [← h, hu]⟩)
    · next hu =>
      split at h
      · next c hc =>
        injection h with h
        exact .inr (.inr (.inl ⟨hs, hu, c, hc, h.symm⟩))
      · next f hf =>
        simp only [State.withCmdErr_g, State.withCmdErr_pd, State.withCmdErr_dstAddr] at h
        cases ho : overlaps s.g s.pd s.dstAddr with
        | true => simp [ho] at h
        | false =>
          simp only [ho, Bool.false_eq_true, if_false] at h
          injection h with h
          exact .inr (.inr (.inr ⟨hs, hu, f, hf, rfl, h.symm⟩))

/-- EXTRACT packs the frame when it is accepted, configured, checked and disjoint (R121). -/
theorem execExtract_packed (s : State) (f : PixelFormat) (hh : s.state ≠ .halted)
    (hu : s.state ≠ .unconfigured) (hf : frameCheck s = .ok f)
    (ho : overlaps s.g s.pd s.dstAddr = false) :
    execExtract s = .next (packed f ((s.withCmdErr false).withState .processing)) := by
  rw [execExtract, acceptUnlessHalted_accepted s _ hh]
  simp [hu, hf, ho]

/-- EXTRACT fails with the cause of the first check that does not hold (R187). -/
theorem execExtract_failed (s : State) (c : Cause) (hh : s.state ≠ .halted)
    (hu : s.state ≠ .unconfigured) (hc : frameCheck s = .error c) :
    execExtract s = .next (fail c.err c s.state ((s.withCmdErr false).withState .processing)) := by
  rw [execExtract, acceptUnlessHalted_accepted s _ hh]
  simp [hu, hc]

/-- In Halted every command but SOFT_RESET is rejected (R113). -/
theorem exec_halted (i : Instr) (s : State) (h : s.state = .halted) (hi : i ≠ .softReset) :
    exec i s = .next s.rejected := by
  cases i with
  | configure => rw [exec, execConfigure, acceptUnlessHalted_halted s _ h]
  | setplane idx => rw [exec, execSetplane, acceptUnlessHalted_halted s _ h]
  | extract => rw [exec, execExtract, acceptUnlessHalted_halted s _ h]
  | softReset => exact absurd rfl hi

/-! ### One field of a packed state, each by rfl -/

@[simp] theorem packed_state (f : PixelFormat) (s : State) : (packed f s).state = .configured := rfl
@[simp] theorem packed_sg (f : PixelFormat) (s : State) : (packed f s).sg = s.sg := rfl
@[simp] theorem packed_g (f : PixelFormat) (s : State) : (packed f s).g = s.g := rfl
@[simp] theorem packed_spd (f : PixelFormat) (s : State) : (packed f s).spd = s.spd := rfl
@[simp] theorem packed_pd (f : PixelFormat) (s : State) :
    (packed f s).pd = PerPlane.replicate PlaneEntry.zero := rfl
@[simp] theorem packed_badPlane (f : PixelFormat) (s : State) : (packed f s).badPlane = false := rfl
@[simp] theorem packed_dstAddr (f : PixelFormat) (s : State) : (packed f s).dstAddr = s.dstAddr := rfl
@[simp] theorem packed_dstCap (f : PixelFormat) (s : State) : (packed f s).dstCap = s.dstCap := rfl
@[simp] theorem packed_err (f : PixelFormat) (s : State) : (packed f s).err = .noError := rfl
@[simp] theorem packed_cause (f : PixelFormat) (s : State) : (packed f s).cause = .noError := rfl
@[simp] theorem packed_outValid (f : PixelFormat) (s : State) : (packed f s).outValid = true := rfl
@[simp] theorem packed_outLen (f : PixelFormat) (s : State) :
    (packed f s).outLen = BitVec.ofNat 32 (bufLen s.g) := rfl
@[simp] theorem packed_outAddr (f : PixelFormat) (s : State) : (packed f s).outAddr = s.dstAddr := rfl
@[simp] theorem packed_pr (f : PixelFormat) (s : State) :
    (packed f s).pr = PerPlane.ofPlane (planeRange s.g f) := rfl
@[simp] theorem packed_cmdErr (f : PixelFormat) (s : State) : (packed f s).cmdErr = s.cmdErr := rfl
@[simp] theorem packed_mem (f : PixelFormat) (s : State) :
    (packed f s).mem = s.mem.moveAll (frameMoves s.g s.pd s.dstAddr) := rfl
@[simp] theorem packed_pending (f : PixelFormat) (s : State) : (packed f s).pending = s.pending := rfl
@[simp] theorem packed_reply (f : PixelFormat) (s : State) : (packed f s).reply = s.reply := rfl
@[simp] theorem packed_freeCount (f : PixelFormat) (s : State) : (packed f s).freeCount = s.freeCount := rfl

/-! ### The host's events -/

/-- CMD stands at offset 0 alone (R24). -/
theorem windowReg_eq_cmd (off : Nat) : windowReg off = some .cmd ↔ off = 0x00 := by
  constructor
  · intro h
    unfold windowReg at h
    split at h <;> simp_all
  · rintro rfl
    rfl

/-- Everything a CMD write can do: be rejected as illegal, or execute the decoded command (R104). -/
theorem writeCmd_cases (w : Word) (s t : State) (h : writeCmd w s = .next t) :
    ((∃ e, decode w = .error e) ∧ t = s.rejected) ∨ (∃ i, decode w = .ok i ∧ exec i s = .next t) := by
  unfold writeCmd at h
  split at h
  · next e he =>
    injection h with h
    exact .inl ⟨⟨e, he⟩, h.symm⟩
  · next i hi => exact .inr ⟨i, hi, h⟩

/-- Everything a command abandoned by a hardware reset can leave: the block at its reset values, and M
either untouched or free on the destination range of an EXTRACT whose checks had passed (U13). -/
theorem cmdCutByReset_cases (w : Word) (s t : State) (h : cmdCutByReset w s = .next t) :
    t = s.blockReset ∨
    (decode w = .ok .extract ∧ s.state ≠ .halted ∧ s.state ≠ .unconfigured ∧
      (∃ f, frameCheck s = .ok f) ∧ overlaps s.g s.pd s.dstAddr = false ∧
      t = ((s.withMem (s.mem.scramble s.freeCount (destinationAddrs s.g s.dstAddr))).withFreeDrawn).blockReset) := by
  unfold cmdCutByReset at h
  split at h
  · next hd =>
    unfold extractCutByReset at h
    split at h
    · injection h with h
      exact .inl h.symm
    · next hs =>
      push Not at hs
      split at h
      · injection h with h
        exact .inl h.symm
      · next f hf =>
        split at h
        · cases h
        · next ho =>
          injection h with h
          exact .inr ⟨hd, hs.1, hs.2, ⟨f, hf⟩, by simpa using ho, h.symm⟩
  all_goals
    injection h with h
    exact .inl h.symm

/-- Everything one step can do when it answers a next state. -/
theorem step_cases (s t : State) (h : step s = .next t) :
    (s.pending = [] ∧ t = s) ∨
    (∃ e rest, s.pending = e :: rest ∧ hostEvent e (takeEvent rest s) = .next t) := by
  unfold step performNext at h
  split at h
  · next hp =>
    injection h with h
    exact .inl ⟨hp, h.symm⟩
  · next e rest hp => exact .inr ⟨e, rest, hp, h⟩

/-- A register write never reaches CMD, which is dispatched before it. -/
theorem hostWrite_cases (off : Nat) (v : Word) (s t : State) (h : hostWrite off v s = .next t) :
    (windowReg off = some .cmd ∧ writeCmd v s = .next t) ∨
    (∃ r, windowReg off = some r ∧ r ≠ .cmd ∧ t = writeReg s v r) := by
  unfold hostWrite at h
  split at h
  · cases h
  · next hr => exact .inl ⟨hr, h⟩
  · next r hne hr =>
    injection h with h
    exact .inr ⟨r, hr, hne, h.symm⟩

theorem hostRead_cases (off : Nat) (s t : State) (h : hostRead off s = .next t) :
    ∃ r, windowReg off = some r ∧ t = s.withReply (.word (readReg s r)) := by
  unfold hostRead at h
  split at h
  · cases h
  · next r hr =>
    injection h with h
    exact ⟨r, hr, h.symm⟩

theorem hostStore_cases (a : Nat) (b : Byte) (s t : State) (h : hostStore a b s = .next t) :
    a < Config.memBytes ∧ t = s.withMem (s.mem.write a b) := by
  unfold hostStore at h
  split at h
  · next ha =>
    injection h with h
    exact ⟨ha, h.symm⟩
  · cases h

theorem hostLoad_cases (a : Nat) (s t : State) (h : hostLoad a s = .next t) :
    a < Config.memBytes ∧ t = s.withReply (.byte (s.mem.read a)) := by
  unfold hostLoad at h
  split at h
  · next ha =>
    injection h with h
    exact ⟨ha, h.symm⟩
  · cases h

/-- A write to a staging register touches only the staging registers and the destination registers
(R102); any other write touches nothing (R103). -/
theorem writeReg_frame (s : State) (v : Word) (r : WindowReg) :
    (writeReg s v r).state = s.state ∧ (writeReg s v r).g = s.g ∧ (writeReg s v r).pd = s.pd ∧
    (writeReg s v r).badPlane = s.badPlane ∧ (writeReg s v r).err = s.err ∧
    (writeReg s v r).cause = s.cause ∧ (writeReg s v r).outValid = s.outValid ∧
    (writeReg s v r).outLen = s.outLen ∧ (writeReg s v r).outAddr = s.outAddr ∧
    (writeReg s v r).pr = s.pr ∧ (writeReg s v r).cmdErr = s.cmdErr ∧ (writeReg s v r).mem = s.mem ∧
    (writeReg s v r).pending = s.pending ∧ (writeReg s v r).reply = s.reply ∧
    (writeReg s v r).freeCount = s.freeCount := by
  cases r <;> exact ⟨rfl, rfl, rfl, rfl, rfl, rfl, rfl, rfl, rfl, rfl, rfl, rfl, rfl, rfl, rfl⟩

end Sys2Proof.Machine
end

