-- ==== Sys2Proof/Laws/PerInstr.lean ====
section
/-! SUPPORT. Facts about each instruction as syntax, one lemma per constructor of `Instr`. -/

namespace Sys2Proof

/-- The OPC field of a command (30_encoding.md R81). -/
def Laws.EncodeFields.opcode : Instr → Nat
  | .configure => 0x01
  | .setplane _ => 0x02
  | .extract => 0x03
  | .softReset => 0x04

/-- The ARG field of a command (R81, R83). -/
def Laws.EncodeFields.argument : Instr → Nat
  | .configure => 0
  | .setplane idx => idx
  | .extract => 0
  | .softReset => 0

/-- The three fields of a well-formed command's word (R80 to R85). -/
def Laws.EncodeFields.Statement (i : Instr) : Prop :=
  i.WellFormed → rsvField (encode i) = 0 ∧ opcField (encode i) = Laws.EncodeFields.opcode i ∧
    argField (encode i) = Laws.EncodeFields.argument i

theorem Laws.EncodeFields.configure : Laws.EncodeFields.Statement .configure := fun _ => by decide

/-- The fields of SETPLANE's word as a number: ARG above OPC. -/
theorem encode_setplane_toNat (idx : Nat) (h : idx ≤ 255) :
    (encode (.setplane idx)).toNat = idx * 256 + 2 := by
  have h1 : (BitVec.ofNat 32 idx <<< 8).toNat = idx * 2 ^ 8 := by
    simp only [BitVec.toNat_shiftLeft, BitVec.toNat_ofNat, Nat.shiftLeft_eq]
    omega
  have h2 : (0x02#32).toNat < 2 ^ 8 := by decide
  simp only [encode, BitVec.toNat_or, h1]
  rw [Nat.mul_comm, ← Nat.two_pow_add_eq_or_of_lt h2]
  simp only [BitVec.toNat_ofNat]
  omega

theorem Laws.EncodeFields.setplane (idx : Nat) : Laws.EncodeFields.Statement (.setplane idx) := by
  intro h
  have hle : idx ≤ 255 := by simpa [Instr.WellFormed, Instr.wf] using h
  have hn := encode_setplane_toNat idx hle
  simp only [rsvField, opcField, argField, BitVec.extractLsb'_toNat, hn, Nat.shiftRight_eq_div_pow,
    Laws.EncodeFields.opcode, Laws.EncodeFields.argument]
  omega

theorem Laws.EncodeFields.extract : Laws.EncodeFields.Statement .extract := fun _ => by decide

theorem Laws.EncodeFields.softReset : Laws.EncodeFields.Statement .softReset := fun _ => by decide

end Sys2Proof
end

