-- ==== Sys2Proof/Laws/Decode.lean ====
section
/-! SUPPORT. The decoder by fields: a word is its three fields, and what a decoded word's fields are
(30_encoding.md R80, R87). -/

namespace Sys2Proof

theorem argField_lt (w : Word) : argField w < 256 := (w.extractLsb' 8 8).isLt

theorem opcField_lt (w : Word) : opcField w < 256 := (w.extractLsb' 0 8).isLt

/-- A word is its fields RSV, ARG, OPC (R80). -/
theorem word_eq_fields (w : Word) : w.toNat = rsvField w * 65536 + argField w * 256 + opcField w := by
  simp only [rsvField, opcField, argField, BitVec.extractLsb'_toNat, Nat.shiftRight_eq_div_pow]
  have := w.isLt
  omega

/-- What a word that decodes must look like. -/
theorem decode_ok_fields (w : Word) (i : Instr) (h : decode w = .ok i) :
    rsvField w = 0 ∧ opcField w = Laws.EncodeFields.opcode i ∧ argField w = Laws.EncodeFields.argument i := by
  unfold decode withoutArg at h
  repeat' split at h
  all_goals first
    | (injection h with h; subst h; simp_all [Laws.EncodeFields.opcode, Laws.EncodeFields.argument])
    | cases h

end Sys2Proof
end

