-- ==== Sys2Proof/Laws/Safety.lean ====
section
/-! SUPPORT. The conditions of 60_exceptions.md R182 as the machine's checks compute them, and the order
of R187 as a search. -/

namespace Sys2Proof.Machine

/-- The condition of a cause, computed. -/
def causeCheck (s : State) : Cause → Bool
  | .noError => false
  | .notConfigured => decide (s.state = .unconfigured)
  | .badFormat => (PixelFormat.ofCode s.g.format).isNone
  | .planeIndex => s.badPlane
  | .oddDimension => hasOddDimension s.g
  | .descriptorMissing => descriptorsMissing s.pd
  | .strideTooSmall => strideBelowWidth s.g s.pd
  | .sourceRange => sourceOutsideMemory s.g s.pd
  | .capacity => decide (s.dstCap.toNat < bufLen s.g)
  | .destinationRange => decide (Config.memBytes < s.dstAddr.toNat + bufLen s.g)

theorem causeHolds_iff (s : State) (c : Cause) : CauseHolds s c ↔ causeCheck s c = true := by
  cases c with
  | noError => simp [CauseHolds, causeCheck]
  | notConfigured => simp [CauseHolds, causeCheck]
  | badFormat => simp [CauseHolds, causeCheck, PixelFormat.ofCode_eq_none]
  | planeIndex => rfl
  | oddDimension => exact (hasOddDimension_iff s.g).symm
  | descriptorMissing => exact (descriptorsMissing_iff s.pd).symm
  | strideTooSmall => exact (strideBelowWidth_iff s.g s.pd).symm
  | sourceRange => exact (sourceOutsideMemory_iff s.g s.pd).symm
  | capacity => simp [CauseHolds, causeCheck]
  | destinationRange =>
    rw [causeCheck, decide_eq_true_iff]
    rfl

/-- The first cause of R187 is what a search of the table finds. -/
theorem firstCause_iff (s : State) (c : Cause) :
    FirstCause s c ↔ causeOrder.find? (causeCheck s) = some c := by
  rw [List.find?_eq_some_iff_append]
  constructor
  · rintro ⟨before, after, horder, hbefore, hc⟩
    refine ⟨(causeHolds_iff s c).mp hc, before, after, horder, fun d hd => ?_⟩
    have := hbefore d hd
    rw [causeHolds_iff] at this
    simpa using this
  · rintro ⟨hc, before, after, horder, hbefore⟩
    refine ⟨before, after, horder, fun d hd => ?_, (causeHolds_iff s c).mpr hc⟩
    rw [causeHolds_iff]
    simpa using hbefore d hd

theorem frameDisjoint_iff (s : State) : FrameDisjoint s ↔ overlaps s.g s.pd s.dstAddr = false :=
  (overlaps_eq_false s.g s.pd s.dstAddr).symm

/-- No error condition holds exactly when the state gate and all checks pass. -/
theorem noCause_iff (s : State) :
    NoCause s ↔ s.state ≠ .unconfigured ∧ ∃ f, frameCheck s = .ok f := by
  simp only [NoCause, causeHolds_iff, Bool.not_eq_true]
  constructor
  · intro h
    refine ⟨by simpa [causeCheck] using h .notConfigured, ?_⟩
    cases hf : PixelFormat.ofCode s.g.format with
    | none => exact absurd (h .badFormat) (by simp [causeCheck, hf])
    | some f =>
      have hcap : ¬ s.dstCap.toNat < bufLen s.g := by simpa [causeCheck] using h .capacity
      have hdst : ¬ Config.memBytes < s.dstAddr.toNat + bufLen s.g := by
        have := h .destinationRange
        rwa [causeCheck, decide_eq_false_iff_not] at this
      exact ⟨f, (frameCheck_eq_ok s f).mpr ⟨hf, h .planeIndex, h .oddDimension, h .descriptorMissing,
        h .strideTooSmall, h .sourceRange, Nat.not_lt.mp hcap, Nat.not_lt.mp hdst⟩⟩
  · rintro ⟨hu, f, hf⟩ c
    obtain ⟨h1, h2, h3, h4, h5, h6, h7, h8⟩ := (frameCheck_eq_ok s f).mp hf
    cases c with
    | noError => rfl
    | notConfigured => simpa [causeCheck] using hu
    | badFormat => simp [causeCheck, h1]
    | planeIndex => exact h2
    | oddDimension => exact h3
    | descriptorMissing => exact h4
    | strideTooSmall => exact h5
    | sourceRange => exact h6
    | capacity => simpa [causeCheck] using h7
    | destinationRange =>
      rw [causeCheck, decide_eq_false_iff_not]
      exact Nat.not_lt.mpr h8

/-- A reset block has its reset values. -/
theorem blockReset_isReset (s : State) : BlockIsReset s.blockReset :=
  ⟨rfl, rfl, rfl, rfl, fun p => by cases p <;> rfl, rfl, rfl, rfl, rfl, rfl, rfl, rfl, rfl,
    fun p => by cases p <;> rfl, rfl⟩

end Sys2Proof.Machine
end

