-- ==== Sys2Proof/Tests/Slice0.lean ====
section
/-! SUPPORT. Tests on values of 95_test_vectors.md and hand calculation from the rules, the smoke test of
WellFormed, and for every statement with hypotheses a witness that meets them. -/

open Sys2Proof Sys2Proof.Machine

/-! ### WellFormed and the encodings (30_encoding.md R82 to R88; vectors V-SC-8 to V-SC-12, V-SP-6) -/

theorem test_wf_refuses_plane_index_256 : ¬ (Instr.setplane 256).WellFormed := by decide
theorem test_wf_admits_plane_index_255 : (Instr.setplane 255).WellFormed := by decide
theorem test_decode_configure : decode 0b00000000000000000000000000000001#32 = .ok .configure := by decide
theorem test_decode_setplane_170 : decode 0b00000000000000001010101000000010#32 = .ok (.setplane 170) := by decide
theorem test_decode_setplane_255 : decode 0b00000000000000001111111100000010#32 = .ok (.setplane 255) := by decide
theorem test_decode_extract : decode 0b00000000000000000000000000000011#32 = .ok .extract := by decide
theorem test_decode_softReset : decode 0b00000000000000000000000000000100#32 = .ok .softReset := by decide
theorem test_decode_zero_word : decode 0x00000000#32 = .error .unknownOpc := by decide
theorem test_decode_opc_5 : decode 0x00000005#32 = .error .unknownOpc := by decide
theorem test_decode_configure_with_arg : decode 0x00000101#32 = .error .argNotZero := by decide
theorem test_decode_softReset_with_arg : decode 0x00000104#32 = .error .argNotZero := by decide
theorem test_decode_extract_with_bit_16 : decode 0x00010003#32 = .error .rsvNotZero := by decide
theorem test_decode_setplane_with_bit_31 : decode 0x80000002#32 = .error .rsvNotZero := by decide
theorem test_encode_setplane_2 : encode (.setplane 2) = 0x00000202#32 := by decide
theorem test_decodeTableWord : decodeTableWord 32 0x102 = some (.setplane 1) := by decide
theorem test_withFetchWord :
    step (State.reset.withFetchWord 32 0x302) = .next { State.reset with badPlane := true } := rfl

/-! ### The frame of program P4 and vector V-EX-6: I420, 2x2 -/

/-- Configured with the 2x2 geometry, three planes offered, DST_ADDR 0x300, DST_CAP 6. -/
def tinyFrame : State :=
  { State.reset with
    state := .configured
    g := { Geometry.zero with format := 1#8, width := 2#32, height := 2#32 }
    pd := ⟨⟨true, 0x100#32, 2#32⟩, ⟨true, 0x110#32, 1#32⟩, ⟨true, 0x120#32, 1#32⟩⟩
    dstAddr := 0x300#32
    dstCap := 6#32
    mem := [(0x100, 0xA0#8), (0x101, 0xA1#8), (0x102, 0xA2#8), (0x103, 0xA3#8), (0x110, 0xB0#8), (0x120, 0xC0#8)] }

/-- The next state, where there is one. -/
def nextOf (r : Result) : Option State :=
  match r with
  | .next s => some s
  | .fault _ => none
  | .refused _ => none

/-- `tinyFrame` in state Halted after FrameMapError 0x20: STATUS 0x00200023. -/
def haltedFrame : State :=
  { State.reset with state := .halted, err := .frameMapError, cause := .descriptorMissing }

/-- `tinyFrame` after its EXTRACT, the bytes of M apart: STATUS 0x00000101, the frame consumed, the results
those of R135 and R150 by hand. -/
def deliveredFrame : State :=
  { tinyFrame with
    pd := PerPlane.replicate PlaneEntry.zero
    outValid := true
    outLen := 6#32
    outAddr := 0x300#32
    pr := ⟨⟨0#32, 4#32, .y⟩, ⟨4#32, 1#32, .u⟩, ⟨5#32, 1#32, .v⟩⟩ }

/-! ### One or two tests for each instruction -/

theorem test_configure_commits :  -- V-SC-2
    (nextOf (exec .configure { State.reset with sg := { Geometry.zero with format := 1#8, width := 4#32 } })).map
      (fun t => (statusWord t, readReg t .aFormat, readReg t .aWidth)) = some (0x00000001#32, 1#32, 4#32) := by
  decide

theorem test_configure_rejected_when_halted :  -- V-SC-14
    (nextOf (exec .configure haltedFrame)).map statusWord = some 0x00200423#32 := by decide

theorem test_setplane_fills_entry :  -- V-SP-1
    (nextOf (exec (.setplane 0)
      { State.reset with state := .configured, spd := { addr := 0x1000#32, stride := 4#32 } })).map
      (fun t => (statusWord t, t.pd.p0)) = some (0x00000801#32, ⟨true, 0x1000#32, 4#32⟩) := by decide

theorem test_setplane_3_latches :  -- V-SP-5
    (nextOf (exec (.setplane 3) State.reset)).map statusWord = some 0x00000200#32 := by decide

theorem test_extract_packs :  -- P4, V-EX-6
    (nextOf (exec .extract tinyFrame)).map
      (fun t => (statusWord t, (List.range 7).map fun k => t.mem.read (0x300 + k))) =
      some (0x00000101#32, [0xA0#8, 0xA1#8, 0xA2#8, 0xA3#8, 0xB0#8, 0xC0#8, 0x00#8]) := by decide +kernel

theorem test_extract_length_is_not_truncated :  -- V-EX-27
    (nextOf (exec .extract
      { tinyFrame with
        g := { Geometry.zero with format := 1#8, width := 65534#32, height := 65534#32 }
        pd := ⟨⟨true, 0#32, 65534#32⟩, ⟨true, 0#32, 32767#32⟩, ⟨true, 0#32, 32767#32⟩⟩
        dstAddr := 0#32
        dstCap := 0xFFFFFFFF#32 })).map statusWord = some 0x00300031#32 := by decide +kernel

theorem test_softReset_from_halted :  -- V-SC-17
    (nextOf (exec .softReset { haltedFrame with cmdErr := true })).map statusWord = some 0#32 := by decide

theorem test_softReset_keeps_memory :  -- V-SC-6
    (nextOf (exec .softReset tinyFrame)).map (fun t => (t.mem.read 0x103, t.dstAddr)) = some (0xA3#8, 0#32) := by
  decide

/-! ### Window and interrupted commands -/

theorem test_write_format_keeps_8_bits :  -- V-RA-2
    (nextOf (step { State.reset with pending := [.wr 0x08 0xFFFFFFFF#32] })).map (readReg · .gFormat) =
      some 0x000000FF#32 := by decide

theorem test_write_crop_ctrl_keeps_1_bit :  -- V-RA-4
    (nextOf (step { State.reset with pending := [.wr 0x14 0xFFFFFFFF#32] })).map (readReg · .gCropCtrl) =
      some 0x00000001#32 := by decide

theorem test_abandoned_extract_frees_only_the_destination :  -- U13
    (nextOf (step { tinyFrame with pending := [.cmdCutByReset 0x00000003#32] })).map
      (fun t => (statusWord t, t.freeCount, t.dstAddr)) = some (0#32, 1, 0#32) := by decide +kernel

/-! ### Witnesses: for every statement with hypotheses, states and operands that meet them -/

theorem tinyFrame_noCause : NoCause tinyFrame := (noCause_iff _).mpr ⟨by decide, .i420, by decide +kernel⟩

theorem tinyFrame_disjoint : FrameDisjoint tinyFrame := (frameDisjoint_iff _).mpr (by decide +kernel)

theorem witness_DecodeInvertsEncode : (Instr.setplane 255).WellFormed ∧ (Instr.setplane 0).WellFormed := by decide

theorem witness_EncodeInvertsDecode : decode 0x0000FF02#32 = .ok (.setplane 255) := by decide

theorem witness_DecodeFollowsLegal :
    ((0x00000001#32).extractLsb' 16 16 = 0#16 ∧ (0x00000001#32).extractLsb' 0 8 = 0x01#8 ∧
      (0x00000001#32).extractLsb' 8 8 = 0#8) ∧
    ((0x0000FF02#32).extractLsb' 16 16 = 0#16 ∧ (0x0000FF02#32).extractLsb' 0 8 = 0x02#8) ∧
    ((0x00000003#32).extractLsb' 16 16 = 0#16 ∧ (0x00000003#32).extractLsb' 0 8 = 0x03#8 ∧
      (0x00000003#32).extractLsb' 8 8 = 0#8) ∧
    ((0x00000004#32).extractLsb' 16 16 = 0#16 ∧ (0x00000004#32).extractLsb' 0 8 = 0x04#8 ∧
      (0x00000004#32).extractLsb' 8 8 = 0#8) ∧
    (0x00010002#32).extractLsb' 16 16 ≠ 0#16 := by decide

theorem witness_StepExecutesDecodedCommand :
    { State.reset with pending := [.wr 0x00 0x00000302#32] }.pending = .wr 0x00 0x00000302#32 :: [] ∧
      decode 0x00000302#32 = .ok (.setplane 3) := by decide

theorem witness_IdleStepHoldsState : tinyFrame.pending = [] := rfl

/-- The three cases of R89: an illegal word, a legal word in Halted, an accepted word (SOFT_RESET in Halted
and SETPLANE elsewhere). -/
theorem witness_CmdWriteRejectsOrExecutes :
    (∃ e, decode 0x00000005#32 = .error e) ∧
    (haltedFrame.state = .halted ∧ decode 0x00000003#32 ≠ .ok .softReset) ∧
    decode 0x00000004#32 = .ok .softReset ∧
    (decode 0x00000002#32 = .ok (.setplane 0) ∧ tinyFrame.state ≠ .halted) :=
  ⟨⟨.unknownOpc, by decide⟩, by decide, by decide, by decide⟩

/-- Each kind of event at the head of the host's program. -/
theorem witness_StepPerformsTheNextEvent :
    { tinyFrame with pending := [.wr 0x7C 0#32] }.pending = .wr 0x7C 0#32 :: [] ∧
    { tinyFrame with pending := [.rd 0x80] }.pending = .rd 0x80 :: [] ∧
    { tinyFrame with pending := [.otherAccess 2] }.pending = .otherAccess 2 :: [] ∧
    { tinyFrame with pending := [.store 0xFFFFFFFF 1#8] }.pending = .store 0xFFFFFFFF 1#8 :: [] ∧
    { tinyFrame with pending := [.load 0] }.pending = .load 0 :: [] ∧
    { tinyFrame with pending := [.hwReset] }.pending = .hwReset :: [] ∧
    { tinyFrame with pending := [.cmdCutByReset 3#32] }.pending = .cmdCutByReset 3#32 :: [] := by decide

theorem witness_HaltedRejectsFrameAndSessionCommands : haltedFrame.state = .halted := rfl

theorem witness_ConfigureCommitsGeometry : haltedFrame.state = .halted ∧ tinyFrame.state ≠ .halted := by decide

theorem witness_WindowReadsZeroAfterReset :
    exec .softReset tinyFrame = .next tinyFrame.blockReset ∧ windowReg 0x00 = some .cmd ∧
      windowReg 0x7C = some .reserved := ⟨rfl, rfl, rfl⟩

/-- Every row of R112 that answers a next state, EXTRACT from Configured with its three outcomes. -/
theorem witness_StateMachineTransitions :
    State.reset.state = .unconfigured ∧ (nextOf (exec .configure State.reset)).isSome ∧
    (nextOf (exec (.setplane 2) State.reset)).isSome ∧ (nextOf (exec .extract State.reset)).isSome ∧
    (nextOf (exec .softReset State.reset)).isSome ∧
    tinyFrame.state = .configured ∧ (nextOf (exec .configure tinyFrame)).isSome ∧
    (nextOf (exec (.setplane 3) tinyFrame)).isSome ∧ (nextOf (exec .softReset tinyFrame)).isSome ∧
    (nextOf (exec .extract tinyFrame)).map (·.err) = some .noError ∧
    (nextOf (exec .extract { tinyFrame with dstCap := 5#32 })).map (·.err) = some .allocationFailure ∧
    (nextOf (exec .extract { tinyFrame with badPlane := true })).map (·.err) = some .unsupportedFormat ∧
    (nextOf (exec .extract { tinyFrame with pd := PerPlane.replicate PlaneEntry.zero })).map (·.err) =
      some .frameMapError ∧
    haltedFrame.state = .halted ∧ (nextOf (exec .configure haltedFrame)).isSome ∧
    (nextOf (exec (.setplane 0) haltedFrame)).isSome ∧ (nextOf (exec .extract haltedFrame)).isSome ∧
    (nextOf (exec .softReset haltedFrame)).isSome := by decide +kernel

theorem witness_HaltedIsLeftOnlyByReset :
    haltedFrame.state = .halted ∧
    (nextOf (step { haltedFrame with pending := [.wr 0x00 0x00000004#32] })).map (·.state) = some .unconfigured ∧
    (nextOf (step { haltedFrame with pending := [.hwReset] })).map (·.state) = some .unconfigured := by decide

theorem witness_ActiveGeometryPersists :
    (nextOf (step { tinyFrame with pending := [.wr 0x00 0x00000001#32] })).map (·.g) = some Geometry.zero ∧
    (nextOf (step { tinyFrame with pending := [.wr 0x00 0x00000004#32] })).map (·.g) = some Geometry.zero ∧
    tinyFrame.g ≠ Geometry.zero := by decide

theorem witness_SetplaneStoresOrLatches :
    haltedFrame.state = .halted ∧ State.reset.state ≠ .halted ∧ 3 ≤ 3 ∧ 3 ≤ 255 := by decide

/-- The last clause, an even effective size, with and without a crop region. -/
theorem witness_FrameDimensionsAndOffsets :
    tinyFrame.g.width.toNat % 2 = 0 ∧ tinyFrame.g.height.toNat % 2 = 0 ∧
    { tinyFrame.g with cropEn := true }.cropW.toNat % 2 = 0 := by decide

/-- Each of the nine causes of R187 as the first one, the range checks one past their limits. -/
theorem witness_ExtractFailsWithFirstCause :
    State.reset.state ≠ .halted ∧ State.reset.state ≠ .processing ∧ FirstCause State.reset .notConfigured ∧
    tinyFrame.state ≠ .halted ∧ tinyFrame.state ≠ .processing ∧
    FirstCause { tinyFrame with g := { tinyFrame.g with format := 3#8, width := 1#32 } } .badFormat ∧
    FirstCause { tinyFrame with badPlane := true, g := { tinyFrame.g with width := 1#32 } } .planeIndex ∧
    FirstCause { tinyFrame with g := { tinyFrame.g with cropEn := true, cropH := 1#32 } } .oddDimension ∧
    FirstCause { tinyFrame with pd := { tinyFrame.pd with p2 := PlaneEntry.zero } } .descriptorMissing ∧
    FirstCause { tinyFrame with pd := { tinyFrame.pd with p1 := ⟨true, 0x110#32, 0#32⟩ } } .strideTooSmall ∧
    FirstCause { tinyFrame with pd := { tinyFrame.pd with p0 := ⟨true, 0xFFFFFFFD#32, 2#32⟩ } } .sourceRange ∧
    FirstCause { tinyFrame with dstCap := 5#32, dstAddr := 0xFFFFFFFB#32 } .capacity ∧
    FirstCause { tinyFrame with dstAddr := 0xFFFFFFFB#32 } .destinationRange := by
  simp only [firstCause_iff]
  decide +kernel

theorem witness_ExtractPacksFrame :
    tinyFrame.mem.wf = true ∧ tinyFrame.state = .configured ∧ NoCause tinyFrame ∧ FrameDisjoint tinyFrame ∧
    0 < planeH tinyFrame.g .p2 ∧ 0 < planeW tinyFrame.g .p2 ∧ ¬ (0x300 ≤ 0x306 ∧ 0x306 < 0x300 + bufLen tinyFrame.g) :=
  ⟨by decide, rfl, tinyFrame_noCause, tinyFrame_disjoint, by decide, by decide, by decide⟩

/-- A destination range whose last byte is the first source byte. -/
theorem witness_OverlappingExtractIsRefused :
    { tinyFrame with dstAddr := 0xFB#32 }.state = .configured ∧ NoCause { tinyFrame with dstAddr := 0xFB#32 } ∧
      ¬ FrameDisjoint { tinyFrame with dstAddr := 0xFB#32 } := by
  refine ⟨rfl, (noCause_iff _).mpr ⟨by decide, .i420, by decide +kernel⟩, ?_⟩
  rw [frameDisjoint_iff]
  decide +kernel

theorem witness_ExtractConsumesFrame :
    tinyFrame.state ≠ .halted ∧ (nextOf (exec .extract tinyFrame)).isSome := by decide +kernel

theorem witness_ExtractKeepsOperandRegisters : (nextOf (exec .extract tinyFrame)).isSome := by decide +kernel

theorem witness_OnlyACopyTouchesMemory :
    (nextOf (hostRead 0x7C tinyFrame)).isSome ∧
    (nextOf (hostWrite 0x00 0x00000003#32 { tinyFrame with dstCap := 0#32 })).map (·.outValid) = some false ∧
    (nextOf (hostWrite 0x00 0x00000102#32 tinyFrame)).isSome ∧
    decode 0x00000102#32 ≠ .ok .extract := by decide +kernel

/-- Two memories that agree on the footprint and differ elsewhere. -/
theorem witness_ExtractDependsOnlyOnFrame :
    { tinyFrame with mem := (0x50, 0x01#8) :: tinyFrame.mem }.mem.wf = true ∧ tinyFrame.mem.wf = true ∧
    tinyFrame.state ≠ .halted ∧ (nextOf (exec .extract tinyFrame)).map (·.outValid) = some true ∧
    ∀ a, InFootprint tinyFrame.g tinyFrame.pd a →
      { tinyFrame with mem := (0x50, 0x01#8) :: tinyFrame.mem }.mem.read a = tinyFrame.mem.read a := by
  refine ⟨by decide, by decide, by decide, by decide +kernel, ?_⟩
  rintro a ⟨p, r, c, -, -, rfl⟩
  have h : 0x100 ≤ srcAddr (tinyFrame.pd.get p) r c := by
    cases p <;> simp only [srcAddr, tinyFrame, PerPlane.get_p0, PerPlane.get_p1, PerPlane.get_p2] <;>
      simp <;> omega
  simp only [Memory.read]
  rw [if_neg (by omega)]

/-- The picture of `tinyFrame` with padded rows in plane 0 (stride 3). -/
def paddedFrame : State :=
  { tinyFrame with
    pd := { tinyFrame.pd with p0 := ⟨true, 0x200#32, 3#32⟩ }
    mem := [(0x110, 0xB0#8), (0x120, 0xC0#8), (0x200, 0xA0#8), (0x201, 0xA1#8), (0x202, 0xEE#8), (0x203, 0xA2#8),
      (0x204, 0xA3#8)] }

theorem witness_PackingIgnoresPadding :
    tinyFrame.mem.wf = true ∧ paddedFrame.mem.wf = true ∧ tinyFrame.state = .configured ∧
    paddedFrame.state = .configured ∧ paddedFrame.g = tinyFrame.g ∧ paddedFrame.dstAddr = tinyFrame.dstAddr ∧
    (∀ p r c, r < planeH tinyFrame.g p → c < planeW tinyFrame.g p →
      paddedFrame.mem.read (srcAddr (paddedFrame.pd.get p) r c) =
        tinyFrame.mem.read (srcAddr (tinyFrame.pd.get p) r c)) ∧
    (nextOf (exec .extract tinyFrame)).map (·.outValid) = some true ∧
    (nextOf (exec .extract paddedFrame)).map (·.outValid) = some true := by
  refine ⟨by decide, by decide, rfl, rfl, rfl, rfl, ?_, by decide +kernel, by decide +kernel⟩
  have h : ∀ p, ∀ r < planeH tinyFrame.g p, ∀ c < planeW tinyFrame.g p,
      paddedFrame.mem.read (srcAddr (paddedFrame.pd.get p) r c) =
        tinyFrame.mem.read (srcAddr (tinyFrame.pd.get p) r c) := by
    intro p
    cases p <;> decide +kernel
  exact fun p r c hr hc => h p r hr c hc

theorem witness_FormatDecidesOnlyTheNames :
    tinyFrame.g.format = 1#8 ∧ tinyFrame.state ≠ .halted ∧
    (nextOf (exec .extract tinyFrame)).map (·.outValid) = some true := by decide +kernel

/-- The zero-size frame of V-EX-5: every length is 0. -/
theorem witness_OutputLengthIsBounded :
    tinyFrame.state ≠ .halted ∧ (nextOf (exec .extract tinyFrame)).map (·.outValid) = some true ∧
    (nextOf (exec .extract { tinyFrame with dstCap := 0#32, g := { tinyFrame.g with width := 0#32 } })).map
      (fun t => (t.outValid, t.outLen)) = some (true, 0#32) := by decide +kernel

theorem witness_SecondExtractWithoutPlanesHalts :
    tinyFrame.state = .configured ∧ (nextOf (exec .extract tinyFrame)).map (·.outValid) = some true := by
  decide +kernel

theorem witness_ReadReturnsTheRegister : (0x00 < 0x80 ∧ 0x00 % 4 = 0) ∧ (0x7C < 0x80 ∧ 0x7C % 4 = 0) := by decide

theorem witness_WriteToReadOnlyIsIgnored :
    0x04 % 4 = 0 ∧ (0x30 ≤ 0x30 ∧ 0x30 < 0x80 ∧ 0x30 % 4 = 0) ∧ (0x30 ≤ 0x7C ∧ 0x7C < 0x80 ∧ 0x7C % 4 = 0) := by
  decide

theorem witness_UndefinedWindowAccessIsRefused : 0x80 ≤ 0x80 ∧ 0x7D % 4 ≠ 0 ∧ 0x01 % 4 ≠ 0 := by decide

/-- Bus addresses at both ends of the window and just beyond it. -/
theorem witness_BusAddressesSelectOffsets :
    (0x7F < 0x80 ∧ Config.plxBase + 0x7F = Config.plxBase + 0x7F) ∧
    (Config.plxBase + 0x80 ≤ Config.plxBase + 0x80) := by simp

theorem witness_HostAccessesToMemory :
    tinyFrame.mem.wf = true ∧ 0 < 2 ^ 32 ∧ 0xFFFFFFFF < 2 ^ 32 ∧ 2 ^ 32 ≤ 0x100000000 := by decide

theorem witness_HardwareResetKeepsMemory : { tinyFrame with pending := [.hwReset] }.pending = .hwReset :: [] := rfl

/-- An abandoned EXTRACT that had passed its checks, and an abandoned SETPLANE. -/
theorem witness_AbandonedCommandIsReset :
    tinyFrame.mem.wf = true ∧
    { tinyFrame with pending := [.cmdCutByReset 0x00000003#32] }.pending = .cmdCutByReset 0x00000003#32 :: [] ∧
    FrameDisjoint { tinyFrame with pending := [.cmdCutByReset 0x00000003#32] } ∧
    decode 0x00000002#32 ≠ .ok .extract :=
  ⟨by decide, rfl, (frameDisjoint_iff _).mpr (by decide +kernel), by decide⟩

/-- A configured frame whose EXTRACT is the next event. -/
theorem witness_StepKeepsSessionInvariant :
    SessionInv { tinyFrame with pending := [.wr 0x00 0x00000003#32] } ∧
    (nextOf (step { tinyFrame with pending := [.wr 0x00 0x00000003#32] })).map (·.outValid) = some true :=
  ⟨⟨by decide, by decide, by decide, by decide, by decide, by decide, by decide⟩, by decide +kernel⟩

/-- An EXTRACT about to report a buffer. -/
theorem witness_StepKeepsResultsMatchGeometry :
    ResultsMatchGeometry { tinyFrame with pending := [.wr 0x00 0x00000003#32] } ∧
    (nextOf (step { tinyFrame with pending := [.wr 0x00 0x00000003#32] })).map (·.outValid) = some true :=
  ⟨fun h => by simp [tinyFrame] at h, by decide +kernel⟩

theorem witness_StepKeepsMemoryCanonical :
    { tinyFrame with pending := [.wr 0x00 0x00000003#32] }.mem.wf = true ∧
    (nextOf (step { tinyFrame with pending := [.wr 0x00 0x00000003#32] })).isSome := by decide +kernel

theorem witness_NoFrameAfterConfigureOrExtract :
    tinyFrame.state ≠ .halted ∧ (nextOf (exec .configure tinyFrame)).isSome ∧
    (nextOf (exec .extract tinyFrame)).isSome := by decide +kernel

/-- With a valid buffer standing, a SETPLANE of the next frame. -/
theorem witness_ResultsStayUntilNextFrame :
    ({ deliveredFrame with pending := [.wr 0x00 0x00000002#32] } : State).pending = .wr 0x00 0x00000002#32 :: [] ∧
    deliveredFrame.outValid = true ∧
    (nextOf (step { deliveredFrame with pending := [.wr 0x00 0x00000002#32] })).map
      (fun t => (t.outValid, t.outLen, t.pd.p0.valid)) = some (true, 6#32, true) ∧
    ¬ IsReset (.wr 0x00 0x00000002#32) ∧
    HostEvent.wr 0x00 0x00000002#32 ≠ .wr 0x00 0x00000001#32 ∧
    HostEvent.wr 0x00 0x00000002#32 ≠ .wr 0x00 0x00000003#32 :=
  ⟨rfl, rfl, by decide, fun h => absurd h.2 (by decide), by decide, by decide⟩

/-- The first and the last staging offset, and the state each write is made in. -/
theorem witness_WriteStagesTheField :
    windowReg 0x08 = some .gFormat ∧ windowReg 0x2C = some .dstCap ∧
    hostWrite 0x2C 0xFFFFFFFF#32 tinyFrame = .next { tinyFrame with dstCap := 0xFFFFFFFF#32 } :=
  ⟨rfl, rfl, rfl⟩
end

section
/-! SUPPORT. Where the register window lies on the bus (00_scope.md R6, 10_state.md R24). -/

namespace Sys2Proof.Machine

theorem windowOffset_plxBase_add {off : Nat} (h : off < Config.windowBytes) :
    windowOffset (Config.plxBase + off) = some off := by
  have inWindow : Config.plxBase ≤ Config.plxBase + off ∧
      Config.plxBase + off < Config.plxBase + Config.windowBytes :=
    ⟨Nat.le_add_right _ _, Nat.add_lt_add_left h _⟩
  rw [windowOffset, if_pos inWindow, Nat.add_sub_cancel_left]

theorem windowOffset_eq_none {a : Nat}
    (h : a < Config.plxBase ∨ Config.plxBase + Config.windowBytes ≤ a) : windowOffset a = none := by
  have outside : ¬ (Config.plxBase ≤ a ∧ a < Config.plxBase + Config.windowBytes) := by omega
  rw [windowOffset, if_neg outside]

theorem busWrite_of_windowOffset {a off : Nat} (v : Word) (h : windowOffset a = some off) :
    busWrite a v = some (.wr off v) := by
  rw [busWrite, h, Option.map_some]

theorem busRead_of_windowOffset {a off : Nat} (h : windowOffset a = some off) :
    busRead a = some (.rd off) := by
  rw [busRead, h, Option.map_some]

theorem busWrite_of_outside {a : Nat} (v : Word) (h : windowOffset a = none) : busWrite a v = none := by
  rw [busWrite, h, Option.map_none]

theorem busRead_of_outside {a : Nat} (h : windowOffset a = none) : busRead a = none := by
  rw [busRead, h, Option.map_none]

/-- Settles O35: the window offset of the address decides both transactions. -/
theorem busAddressesSelectOffsets : Obligations.BusAddressesSelectOffsets := by
  intro a v
  constructor
  · rintro off hoff rfl
    have hwin := windowOffset_plxBase_add hoff
    exact ⟨busWrite_of_windowOffset v hwin, busRead_of_windowOffset hwin⟩
  · intro houtside
    have hwin := windowOffset_eq_none houtside
    exact ⟨busWrite_of_outside v hwin, busRead_of_outside hwin⟩

end Sys2Proof.Machine
end

section
/-! SUPPORT. What one event of the host does to the session: the fields the invariants of 10_state.md R45
read, and M. Said once, for the invariants and for the persistence of the active geometry. -/

namespace Sys2Proof

/-- Two words of the same command are the same word: no bit of a legal word is ignored (R80, R87). -/
theorem eq_of_decode_eq_ok {w w' : Word} {i : Instr} (h : decode w = .ok i) (h' : decode w' = .ok i) :
    w = w' := by
  obtain ⟨hrsv, hopc, harg⟩ := decode_ok_fields w i h
  obtain ⟨hrsv', hopc', harg'⟩ := decode_ok_fields w' i h'
  apply BitVec.eq_of_toNat_eq
  rw [word_eq_fields w, word_eq_fields w', hrsv, hopc, harg, hrsv', hopc', harg']

namespace Machine

/-! ### The effect of one event -/

/-- The elements of R20 that items 1 to 7 of R45 and R32 speak of are the same in both states. -/
structure SameSession (s t : State) : Prop where
  state    : t.state = s.state
  g        : t.g = s.g
  err      : t.err = s.err
  cause    : t.cause = s.cause
  outValid : t.outValid = s.outValid
  outLen   : t.outLen = s.outLen
  outAddr  : t.outAddr = s.outAddr
  pr       : t.pr = s.pr

theorem sameSession_rejected (s : State) : SameSession s s.rejected :=
  ⟨rfl, rfl, rfl, rfl, rfl, rfl, rfl, rfl⟩

theorem sameSession_withPlane (s : State) (p : Plane) :
    SameSession s ((s.withCmdErr false).withPlane p) :=
  ⟨rfl, rfl, rfl, rfl, rfl, rfl, rfl, rfl⟩

theorem sameSession_withBadPlane (s : State) : SameSession s (s.withCmdErr false).withBadPlane :=
  ⟨rfl, rfl, rfl, rfl, rfl, rfl, rfl, rfl⟩

theorem sameSession_withMem (s : State) (m : Memory) : SameSession s (s.withMem m) :=
  ⟨rfl, rfl, rfl, rfl, rfl, rfl, rfl, rfl⟩

theorem sameSession_withReply (s : State) (r : Reply) : SameSession s (s.withReply r) :=
  ⟨rfl, rfl, rfl, rfl, rfl, rfl, rfl, rfl⟩

theorem sameSession_takeEvent (rest : List HostEvent) (s : State) : SameSession s (takeEvent rest s) :=
  ⟨rfl, rfl, rfl, rfl, rfl, rfl, rfl, rfl⟩

theorem sameSession_writeReg (s : State) (v : Word) (r : WindowReg) : SameSession s (writeReg s v r) := by
  obtain ⟨hstate, hg, -, -, herr, hcause, hvalid, hlen, haddr, hpr, -⟩ := writeReg_frame s v r
  exact ⟨hstate, hg, herr, hcause, hvalid, hlen, haddr, hpr⟩

theorem writeReg_mem (s : State) (v : Word) (r : WindowReg) : (writeReg s v r).mem = s.mem := by
  obtain ⟨-, -, -, -, -, -, -, -, -, -, -, hmem, -⟩ := writeReg_frame s v r
  exact hmem

/-- The effects an event `e` that answers `t` from `s` can have: `hostEvent_effect` says there is no other. -/
inductive EventEffect (e : HostEvent) (s t : State) : Prop where
  /-- A read, a host load, a write to a register, a SETPLANE or a rejected CMD write. -/
  | kept (session : SameSession s t) (mem : t.mem = s.mem)
  /-- A host store. -/
  | stored (a : Nat) (b : Byte) (inMemory : a < Config.memBytes) (result : t = s.withMem (s.mem.write a b))
  /-- An accepted CONFIGURE (R110). -/
  | committed (event : e = .wr 0x00 0x00000001#32) (result : t = configured s)
  /-- An accepted EXTRACT that fails (R186); STATE `processing` in between leaves no trace. -/
  | failed (c : Cause) (accepted : s.state ≠ .halted)
      (result : t = fail c.err c s.state (s.withCmdErr false))
  /-- An accepted EXTRACT that packs the frame (R134 to R137). -/
  | delivered (f : PixelFormat) (checks : frameCheck s = .ok f)
      (disjoint : overlaps s.g s.pd s.dstAddr = false) (result : t = packed f (s.withCmdErr false))
  /-- A reset that leaves M alone (R111, R211). -/
  | reset (event : IsReset e) (result : t = s.blockReset)
  /-- A hardware reset during the copy of an EXTRACT (U13). -/
  | cut (event : IsReset e) (f : PixelFormat) (checks : frameCheck s = .ok f)
      (result : t =
        ((s.withMem (s.mem.scramble s.freeCount (destinationAddrs s.g s.dstAddr))).withFreeDrawn).blockReset)

theorem execExtract_effect (e : HostEvent) (s t : State) (h : execExtract s = .next t) :
    EventEffect e s t := by
  rcases execExtract_cases s t h with
    ⟨-, rfl⟩ | ⟨hu, rfl⟩ | ⟨hs, -, c, -, rfl⟩ | ⟨-, -, f, hf, ho, rfl⟩
  · exact .kept (sameSession_rejected s) rfl
  · exact .failed .notConfigured (by simp [hu]) (by rw [hu, Cause.err])
  · exact .failed c hs rfl
  · exact .delivered f hf ho rfl

/-- What a CMD write of a legal word does, command by command. -/
theorem exec_effect (w : Word) (i : Instr) (s t : State) (hw : decode w = .ok i)
    (h : exec i s = .next t) : EventEffect (.wr 0x00 w) s t := by
  cases i with
  | configure =>
    rcases execConfigure_cases s t h with ⟨-, rfl⟩ | ⟨-, rfl⟩
    · exact .kept (sameSession_rejected s) rfl
    · have hword : w = 0x00000001#32 := eq_of_decode_eq_ok hw (by decide)
      exact .committed (by rw [hword]) rfl
  | setplane idx =>
    rcases execSetplane_cases s t idx h with ⟨-, rfl⟩ | ⟨-, p, -, rfl⟩ | ⟨-, -, rfl⟩
    · exact .kept (sameSession_rejected s) rfl
    · exact .kept (sameSession_withPlane s p) rfl
    · exact .kept (sameSession_withBadPlane s) rfl
  | extract => exact execExtract_effect _ s t h
  | softReset =>
    have hword : w = 0x00000004#32 := eq_of_decode_eq_ok hw (by decide)
    injection h with h
    exact .reset ⟨rfl, hword⟩ h.symm

theorem hostWrite_effect (off : Nat) (v : Word) (s t : State) (h : hostWrite off v s = .next t) :
    EventEffect (.wr off v) s t := by
  rcases hostWrite_cases off v s t h with ⟨hoff, hcmd⟩ | ⟨r, -, -, rfl⟩
  · obtain rfl := (windowReg_eq_cmd off).mp hoff
    rcases writeCmd_cases v s t hcmd with ⟨-, rfl⟩ | ⟨i, hi, hexec⟩
    · exact .kept (sameSession_rejected s) rfl
    · exact exec_effect v i s t hi hexec
  · exact .kept (sameSession_writeReg s v r) (writeReg_mem s v r)

theorem cmdCutByReset_effect (w : Word) (s t : State) (h : cmdCutByReset w s = .next t) :
    EventEffect (.cmdCutByReset w) s t := by
  rcases cmdCutByReset_cases w s t h with rfl | ⟨-, -, -, ⟨f, hf⟩, -, rfl⟩
  · exact .reset trivial rfl
  · exact .cut trivial f hf rfl

/-- Everything an event that answers a next state can do to the session and to M. -/
theorem hostEvent_effect (e : HostEvent) (s t : State) (h : hostEvent e s = .next t) :
    EventEffect e s t := by
  cases e with
  | wr off v => exact hostWrite_effect off v s t h
  | rd off =>
    obtain ⟨r, -, rfl⟩ := hostRead_cases off s t h
    exact .kept (sameSession_withReply s _) rfl
  | otherAccess off => cases h
  | store a b =>
    obtain ⟨ha, rfl⟩ := hostStore_cases a b s t h
    exact .stored a b ha rfl
  | load a =>
    obtain ⟨-, rfl⟩ := hostLoad_cases a s t h
    exact .kept (sameSession_withReply s _) rfl
  | hwReset =>
    injection h with h
    exact .reset trivial h.symm
  | cmdCutByReset w => exact cmdCutByReset_effect w s t h

/-- An idle step holds the state; any other step has one of the effects of its event. -/
theorem step_effect (s t : State) (h : step s = .next t) :
    t = s ∨ ∃ e rest, s.pending = e :: rest ∧ EventEffect e (takeEvent rest s) t := by
  rcases step_cases s t h with ⟨-, rfl⟩ | ⟨e, rest, hp, he⟩
  · exact .inl rfl
  · exact .inr ⟨e, rest, hp, hostEvent_effect e _ t he⟩

/-! ### The session invariants (10_state.md R45, items 1 to 7) -/

/-- The error of a cause is "none" only for the cause "none" (R182). -/
theorem Cause.err_eq_noError_iff (c : Cause) : c.err = .noError ↔ c = .noError := by
  cases c <;> decide

/-- The invariants read nothing but the session. -/
theorem SessionInv.of_sameSession {s t : State} (hs : SessionInv s) (h : SameSession s t) :
    SessionInv t := by
  obtain ⟨hstate, hg, herr, hcause, hvalid, hlen, haddr, hpr⟩ := h
  constructor
  · rw [hstate]; exact hs.not_processing
  · rw [hstate, herr, hvalid]; exact hs.halted
  · rw [hstate, hg, hvalid]; exact hs.unconfigured
  · rw [hstate, hg, herr, hcause, hvalid]; exact hs.valid_clean
  · rw [herr, hcause]; exact hs.err_cause
  · rw [hvalid, hlen, haddr, hpr]; exact hs.invalid_zero
  · rw [hvalid, hlen, haddr, hpr]; exact hs.valid_tiles

/-- Without a buffer the results are zero, and the items about a valid buffer (4, 7) ask nothing. -/
theorem SessionInv.of_noBuffer {s : State} (hproc : s.state ≠ .processing)
    (hhalted : s.state = .halted → s.err = .frameMapError)
    (hunconf : s.state = .unconfigured → s.g = Geometry.zero) (herr : s.err = .noError ↔ s.cause = .noError)
    (hvalid : s.outValid = false)
    (hzero : s.outLen = 0#32 ∧ s.outAddr = 0#32 ∧ s.pr = PerPlane.replicate PlaneRange.zero) :
    SessionInv s where
  not_processing := hproc
  halted hs := ⟨hhalted hs, hvalid⟩
  unconfigured hs := ⟨hunconf hs, hvalid⟩
  valid_clean hv := absurd hv (by simp [hvalid])
  err_cause := herr
  invalid_zero _ := hzero
  valid_tiles hv := absurd hv (by simp [hvalid])

theorem sessionInv_configured (s : State) : SessionInv (configured s) :=
  .of_noBuffer (by simp [configured]) (by simp [configured]) (by simp [configured]) (by simp [configured])
    rfl ⟨rfl, rfl, rfl⟩

theorem sessionInv_reset : SessionInv State.reset :=
  .of_noBuffer (by decide) (by decide) (fun _ => rfl) (by decide) rfl ⟨rfl, rfl, rfl⟩

/-- A reset block has the session of the reset state. -/
theorem sameSession_blockReset (s : State) : SameSession State.reset s.blockReset :=
  ⟨rfl, rfl, rfl, rfl, rfl, rfl, rfl, rfl⟩

theorem sessionInv_blockReset (s : State) : SessionInv s.blockReset :=
  sessionInv_reset.of_sameSession (sameSession_blockReset s)

/-- A failing EXTRACT halts with FrameMapError or stays in the state it began in, and vouches for no
buffer (R186). -/
theorem sessionInv_fail (c : Cause) {s : State} (hs : SessionInv s) (hacc : s.state ≠ .halted) :
    SessionInv (fail c.err c s.state (s.withCmdErr false)) := by
  have hstate := fail_state (s.withCmdErr false) c.err c s.state
  by_cases hfatal : c.err = .frameMapError
  · rw [if_pos hfatal] at hstate
    exact .of_noBuffer (fun hp => absurd (hstate.symm.trans hp) (by decide)) (fun _ => hfatal)
      (fun hu => absurd (hstate.symm.trans hu) (by decide)) c.err_eq_noError_iff rfl ⟨rfl, rfl, rfl⟩
  · rw [if_neg hfatal] at hstate
    exact .of_noBuffer (fun hp => hs.not_processing (hstate.symm.trans hp))
      (fun hh => absurd (hstate.symm.trans hh) hacc)
      (fun hu => (hs.unconfigured (hstate.symm.trans hu)).1) c.err_eq_noError_iff rfl ⟨rfl, rfl, rfl⟩

theorem planeRange_offset_toNat {g : Geometry} (f : PixelFormat) (p : Plane) (h : bufLen g < 2 ^ 32) :
    (planeRange g f p).offset.toNat = planeOff g p := by
  have := planeOff_add_planeSize_le g p
  simp only [planeRange, BitVec.toNat_ofNat]
  omega

theorem planeRange_size_toNat {g : Geometry} (f : PixelFormat) (p : Plane) (h : bufLen g < 2 ^ 32) :
    (planeRange g f p).size.toNat = planeSize g p := by
  have := planeOff_add_planeSize_le g p
  simp only [planeRange, BitVec.toNat_ofNat]
  omega

theorem bufLen_word_toNat {g : Geometry} (h : bufLen g < 2 ^ 32) :
    (BitVec.ofNat 32 (bufLen g)).toNat = bufLen g := by
  rw [BitVec.toNat_ofNat, Nat.mod_eq_of_lt h]

/-- The two chroma planes hold U and V in one order or the other (R151, R152). -/
theorem semOf_chroma (f : PixelFormat) :
    (semOf f .p1 = .u ∧ semOf f .p2 = .v) ∨ (semOf f .p1 = .v ∧ semOf f .p2 = .u) := by
  cases f with
  | i420 => exact .inl ⟨rfl, rfl⟩
  | yv12 => exact .inr ⟨rfl, rfl⟩

theorem semOf_p0 (f : PixelFormat) : semOf f .p0 = .y := by cases f <;> rfl

/-- Where the checks pass, the destination range lies inside M (R132). -/
theorem destination_le_memBytes {s : State} {f : PixelFormat} (hf : frameCheck s = .ok f) :
    s.dstAddr.toNat + bufLen s.g ≤ Config.memBytes := by
  obtain ⟨-, -, -, -, -, -, -, hfit⟩ := (frameCheck_eq_ok s f).mp hf
  exact hfit

/-- A packed frame has the ranges of R150 one after the other, inside M because the checks passed. -/
theorem sessionInv_packed {s : State} {f : PixelFormat} (hf : frameCheck s = .ok f) :
    SessionInv (packed f (s.withCmdErr false)) where
  not_processing := by simp
  halted := by simp
  unconfigured := by simp
  valid_clean := fun _ => by
    obtain ⟨hcode, -⟩ := (frameCheck_eq_ok s f).mp hf
    rcases (PixelFormat.ofCode_eq_some _ _).mp hcode with ⟨hfmt, -⟩ | ⟨hfmt, -⟩
    · exact ⟨rfl, rfl, rfl, .inl hfmt⟩
    · exact ⟨rfl, rfl, rfl, .inr hfmt⟩
  err_cause := by simp
  invalid_zero := by simp
  valid_tiles := fun _ => by
    obtain ⟨-, -, hlen⟩ := frameCheck_ok_fits s f hf .p0
    have hsize p := planeRange_size_toNat f p hlen
    have hword := bufLen_word_toNat hlen
    refine ⟨rfl, rfl, ?_, ?_, rfl, semOf_p0 f, semOf_chroma f, ?_⟩
    · exact (planeRange_offset_toNat f .p2 hlen).trans (by rw [planeOff, ← hsize, ← hsize]; rfl)
    · exact hword.trans (by rw [bufLen, ← hsize, ← hsize, ← hsize]; rfl)
    · rw [packed_outLen, packed_outAddr, State.withCmdErr_g, State.withCmdErr_dstAddr, hword]
      exact destination_le_memBytes hf

/-- Every effect of an event keeps the session invariants. -/
theorem EventEffect.sessionInv {e : HostEvent} {s t : State} (h : EventEffect e s t)
    (hs : SessionInv s) : SessionInv t := by
  cases h with
  | kept session mem => exact hs.of_sameSession session
  | stored a b ha ht => exact ht ▸ hs.of_sameSession (sameSession_withMem s _)
  | committed he ht => exact ht ▸ sessionInv_configured s
  | failed c hacc ht => exact ht ▸ sessionInv_fail c hs hacc
  | delivered f hf ho ht => exact ht ▸ sessionInv_packed hf
  | reset he ht => exact ht ▸ sessionInv_blockReset s
  | cut he f hf ht => exact ht ▸ sessionInv_blockReset _

/-- Settles O40: each effect of the event performed keeps the invariants; an idle step holds the state. -/
theorem stepKeepsSessionInvariant : Obligations.StepKeepsSessionInvariant := by
  intro s t hs hstep
  rcases step_effect s t hstep with rfl | ⟨e, rest, -, heffect⟩
  · exact hs
  · exact heffect.sessionInv (hs.of_sameSession (sameSession_takeEvent rest s))

/-! ### The canonical form of M (10_state.md R43, 20_memory.md R69) -/

theorem destinationAddrs_lt_memBytes {s : State} {f : PixelFormat} (hf : frameCheck s = .ok f) :
    ∀ a ∈ destinationAddrs s.g s.dstAddr, a < Config.memBytes := by
  intro a ha
  obtain ⟨-, hlt⟩ := (mem_destinationAddrs s.g s.dstAddr a).mp ha
  exact hlt.trans_le (destination_le_memBytes hf)

/-- Every effect of an event keeps the canonical form of M. -/
theorem EventEffect.mem_wf {e : HostEvent} {s t : State} (h : EventEffect e s t)
    (hwf : s.mem.wf = true) : t.mem.wf = true := by
  cases h with
  | kept session mem => rw [mem]; exact hwf
  | stored a b ha ht => subst ht; exact Memory.write_wf s.mem a b ha hwf
  | committed he ht => subst ht; exact hwf
  | failed c hacc ht => subst ht; exact hwf
  | delivered f hf ho ht =>
    obtain ⟨hcopied, -⟩ := copy_frame s.mem s.g s.pd s.dstAddr hwf (destination_le_memBytes hf) ho
    subst ht
    exact hcopied
  | reset he ht => subst ht; exact hwf
  | cut he f hf ht =>
    subst ht
    exact Memory.scramble_wf _ s.mem s.freeCount hwf (destinationAddrs_lt_memBytes hf)

/-- Settles O42: each effect of the event performed keeps the canonical form; an idle step holds M. -/
theorem stepKeepsMemoryCanonical : Obligations.StepKeepsMemoryCanonical := by
  intro s t hwf hstep
  rcases step_effect s t hstep with rfl | ⟨e, rest, -, heffect⟩
  · exact hwf
  · exact heffect.mem_wf hwf

/-! ### The active geometry (10_state.md R32) -/

/-- The active geometry after an event is the one before, the staged one of a CONFIGURE, or zero after a
reset. -/
theorem EventEffect.geometry {e : HostEvent} {s t : State} (h : EventEffect e s t) :
    t.g = s.g ∨ (e = .wr 0x00 0x00000001#32 ∧ t.g = s.sg) ∨ (IsReset e ∧ t.g = Geometry.zero) := by
  cases h with
  | kept session mem => exact .inl session.g
  | stored a b ha ht => subst ht; exact .inl rfl
  | committed he ht => subst ht; exact .inr (.inl ⟨he, rfl⟩)
  | failed c hacc ht => subst ht; exact .inl rfl
  | delivered f hf ho ht => subst ht; exact .inl rfl
  | reset he ht => subst ht; exact .inr (.inr ⟨he, rfl⟩)
  | cut he f hf ht => subst ht; exact .inr (.inr ⟨he, rfl⟩)

/-- Settles O15: of the effects an event can have, only CONFIGURE and reset touch G. -/
theorem activeGeometryPersists : Obligations.ActiveGeometryPersists := by
  intro s t hstep hchanged
  rcases step_effect s t hstep with rfl | ⟨e, rest, hpending, heffect⟩
  · exact absurd rfl hchanged
  · rcases heffect.geometry with hsame | hnew
    · exact absurd hsame hchanged
    · exact ⟨e, rest, hpending, hnew⟩

end Machine
end Sys2Proof
end

section
/-! SUPPORT. The fields of STATUS, the values after reset, the host's accesses to M, and what EXTRACT reads
and leaves (10_state.md R23, R26, R42 to R45). -/

namespace Sys2Proof.Machine

/-! ### STATUS (10_state.md R26) -/

theorem getLsbD_bitWord_shiftLeft (b : Bool) (k i : Nat) (hi : i < 32) :
    (bitWord b <<< k).getLsbD i = (b && decide (i = k)) := by
  cases b with
  | false => simp [bitWord]
  | true =>
    rw [bitWord, if_pos rfl, BitVec.getLsbD_shiftLeft, BitVec.getLsbD_one, decide_eq_true hi,
      Bool.true_and, Bool.true_and, Bool.eq_iff_iff]
    simp
    omega

theorem getLsbD_setWidth_shiftLeft {n : Nat} (x : BitVec n) (k i : Nat) (hi : i < 32) :
    (x.setWidth 32 <<< k).getLsbD i = (decide (k ≤ i) && x.getLsbD (i - k)) := by
  have hik : i - k < 32 := by omega
  rw [BitVec.getLsbD_shiftLeft, BitVec.getLsbD_setWidth, decide_eq_true hi, decide_eq_true hik,
    Bool.true_and, Bool.true_and, ← decide_not, decide_eq_decide.mpr Nat.not_lt]

/-- Bit `i` of STATUS by the table of R26; `getLsbD_statusWord` ties it to the word. -/
def statusBit (s : State) (i : Nat) : Bool :=
  s.state.code.getLsbD i || (decide (4 ≤ i) && s.err.code.getLsbD (i - 4))
    || (s.outValid && decide (i = 8)) || (s.badPlane && decide (i = 9)) || (s.cmdErr && decide (i = 10))
    || (s.pd.p0.valid && decide (i = 11)) || (s.pd.p1.valid && decide (i = 12))
    || (s.pd.p2.valid && decide (i = 13)) || (decide (16 ≤ i) && s.cause.code.getLsbD (i - 16))

theorem getLsbD_statusWord (s : State) (i : Nat) (hi : i < 32) :
    (statusWord s).getLsbD i = statusBit s i := by
  simp only [statusWord, statusBit, BitVec.getLsbD_or, getLsbD_setWidth_shiftLeft _ _ i hi,
    getLsbD_bitWord_shiftLeft _ _ i hi, BitVec.getLsbD_setWidth, hi, decide_true, Bool.true_and]

/-- A slice of STATUS is the value that has the bits of the table there. -/
theorem extractLsb'_statusWord (s : State) {start len : Nat} {x : BitVec len} (hle : start + len ≤ 32)
    (h : ∀ j < len, statusBit s (start + j) = x.getLsbD j) :
    (statusWord s).extractLsb' start len = x :=
  BitVec.eq_of_getLsbD_eq fun j hj => by
    rw [BitVec.getLsbD_extractLsb', decide_eq_true hj, Bool.true_and, getLsbD_statusWord s _ (by omega),
      h j hj]

/-- The fields of more than one bit. -/
theorem statusWord_codes (s : State) :
    (statusWord s).extractLsb' 0 2 = s.state.code ∧ (statusWord s).extractLsb' 4 3 = s.err.code ∧
      (statusWord s).extractLsb' 16 8 = s.cause.code := by
  refine ⟨extractLsb'_statusWord s (by decide) fun j hj => ?_,
    extractLsb'_statusWord s (by decide) fun j hj => ?_,
    extractLsb'_statusWord s (by decide) fun j hj => ?_⟩ <;>
  interval_cases j <;> simp [statusBit]

/-- The fields of one bit. -/
theorem statusWord_flags (s : State) :
    (statusWord s).getLsbD 8 = s.outValid ∧ (statusWord s).getLsbD 9 = s.badPlane ∧
      (statusWord s).getLsbD 10 = s.cmdErr ∧ (statusWord s).getLsbD 11 = s.pd.p0.valid ∧
      (statusWord s).getLsbD 12 = s.pd.p1.valid ∧ (statusWord s).getLsbD 13 = s.pd.p2.valid := by
  refine ⟨?_, ?_, ?_, ?_, ?_, ?_⟩ <;> rw [getLsbD_statusWord s _ (by decide)] <;> simp [statusBit]

/-- The bits without a field. -/
theorem statusWord_reserved (s : State) :
    (statusWord s).extractLsb' 2 2 = 0#2 ∧ (statusWord s).extractLsb' 7 1 = 0#1 ∧
      (statusWord s).extractLsb' 14 2 = 0#2 ∧ (statusWord s).extractLsb' 24 8 = 0#8 := by
  refine ⟨extractLsb'_statusWord s (by decide) fun j hj => ?_,
    extractLsb'_statusWord s (by decide) fun j hj => ?_,
    extractLsb'_statusWord s (by decide) fun j hj => ?_,
    extractLsb'_statusWord s (by decide) fun j hj => ?_⟩ <;>
  interval_cases j <;> simp [statusBit]

/-- Settles O29: the codes, the flags and the reserved bits of STATUS. -/
theorem statusFieldsAtTheirBits : Obligations.StatusFieldsAtTheirBits := by
  intro s
  obtain ⟨hstate, herr, hcause⟩ := statusWord_codes s
  obtain ⟨hvalid, hbad, hcmd, hp0, hp1, hp2⟩ := statusWord_flags s
  obtain ⟨h2, h7, h14, h24⟩ := statusWord_reserved s
  exact ⟨hstate, h2, herr, h7, hvalid, hbad, hcmd, hp0, hp1, hp2, h14, hcause, h24⟩

/-- Settles O30: the tables of R23, R181 and R182, and cause by cause the high nibble. -/
theorem codesOfStateErrorAndCause : Obligations.CodesOfStateErrorAndCause := by
  have hnibble : ∀ c : Cause, (c.code.extractLsb' 4 4).toNat = c.err.code.toNat := fun c => by
    cases c <;> rfl
  exact ⟨⟨rfl, rfl, rfl, rfl⟩, ⟨rfl, rfl, rfl, rfl⟩, rfl, hnibble⟩

/-! ### After reset (10_state.md R44) -/

theorem statusWord_blockReset (s : State) : statusWord s.blockReset = 0#32 :=
  calc statusWord s.blockReset = statusWord State.reset := rfl
    _ = 0#32 := by decide

/-- A reset block reads zero at every register of the window. -/
theorem readReg_blockReset (s : State) (r : WindowReg) : readReg s.blockReset r = 0#32 := by
  cases r with
  | status => exact statusWord_blockReset s
  | prOffset p => cases p <;> rfl
  | prSize p => cases p <;> rfl
  | prSem p => cases p <;> rfl
  | _ => rfl

/-- Settles O12: SOFT_RESET answers the reset block, which reads zero everywhere. -/
theorem windowReadsZeroAfterReset : Obligations.WindowReadsZeroAfterReset := by
  intro s t off r hexec _
  injection hexec with ht
  exact ht ▸ readReg_blockReset s r

/-- Without a valid buffer there are no results to agree with the geometry. -/
theorem resultsMatchGeometry_of_outValid_eq_false {s : State} (h : s.outValid = false) :
    ResultsMatchGeometry s := fun hvalid => absurd hvalid (by simp [h])

/-- Settles O39: the reset state has no buffer, an empty M, and is its own reset block. -/
theorem resetStateSatisfiesInvariants : Obligations.ResetStateSatisfiesInvariants :=
  ⟨sessionInv_reset, resultsMatchGeometry_of_outValid_eq_false rfl, Memory.wf_nil,
    blockReset_isReset State.reset⟩

/-! ### The host's accesses to M (10_state.md R43, 20_memory.md R67, R72) -/

theorem hostStore_of_lt {addr : Nat} (b : Byte) (s : State) (h : addr < Config.memBytes) :
    hostStore addr b s = .next (s.withMem (s.mem.write addr b)) := if_pos h

theorem hostLoad_of_lt {addr : Nat} (s : State) (h : addr < Config.memBytes) :
    hostLoad addr s = .next (s.withReply (.byte (s.mem.read addr))) := if_pos h

theorem hostStore_of_le {addr : Nat} (b : Byte) (s : State) (h : Config.memBytes ≤ addr) :
    hostStore addr b s = .fault (.noSuchAddress addr) := if_neg (Nat.not_lt.mpr h)

theorem hostLoad_of_le {addr : Nat} (s : State) (h : Config.memBytes ≤ addr) :
    hostLoad addr s = .fault (.noSuchAddress addr) := if_neg (Nat.not_lt.mpr h)

/-- Settles O36: read after write at the stored address and at every other, and the fault above M. -/
theorem hostAccessesToMemory : Obligations.HostAccessesToMemory := by
  intro s addr b hwf
  have hread := Memory.read_write s.mem addr b hwf
  refine ⟨fun hlt => ⟨⟨s.mem.write addr b, hostStore_of_lt b s hlt, ?_, fun a ha => ?_⟩,
    hostLoad_of_lt s hlt⟩, fun hle => ⟨hostStore_of_le b s hle, hostLoad_of_le s hle⟩⟩
  · rw [hread, if_pos rfl]
  · rw [hread, if_neg ha]

/-! ### What EXTRACT leaves and what it reads (10_state.md R42, R45 item 8) -/

/-- The frame is consumed: no descriptor is offered and BADPLANE is clear (R136). -/
theorem noFrame_of_pd_zero {t : State} (hpd : t.pd = PerPlane.replicate PlaneEntry.zero)
    (hbad : t.badPlane = false) : (∀ p, (t.pd.get p).valid = false) ∧ t.badPlane = false :=
  ⟨fun p => by rw [hpd, PerPlane.get_replicate, PlaneEntry.zero], hbad⟩

/-- Settles O43: whichever way an accepted CONFIGURE or EXTRACT ends, the frame is dropped. -/
theorem noFrameAfterConfigureOrExtract : Obligations.NoFrameAfterConfigureOrExtract := by
  rintro s t i hs (rfl | rfl) h
  · rcases execConfigure_cases s t h with ⟨hh, -⟩ | ⟨-, rfl⟩
    · exact absurd hh hs
    · exact noFrame_of_pd_zero rfl rfl
  · rcases execExtract_cases s t h with ⟨hh, -⟩ | ⟨-, rfl⟩ | ⟨-, -, c, -, rfl⟩ | ⟨-, -, f, -, -, rfl⟩
    · exact absurd hh hs
    all_goals exact noFrame_of_pd_zero rfl rfl

theorem execExtract_notConfigured (s : State) (hu : s.state = .unconfigured) :
    execExtract s = .next (fail .unsupportedFormat .notConfigured .unconfigured (s.withCmdErr false)) := by
  rw [execExtract, acceptUnlessHalted_accepted s _ (by simp [hu])]
  simp [hu]

/-- Two copies of a frame from memories that agree on its footprint agree on the destination range. -/
theorem copy_read_congr {m m' : Memory} {g : Geometry} {pd : PerPlane PlaneEntry} {dst : Word}
    (hwf : m.wf = true) (hwf' : m'.wf = true) (hfoot : ∀ a, InFootprint g pd a → m'.read a = m.read a)
    (hfit : dst.toNat + bufLen g ≤ Config.memBytes) (ho : overlaps g pd dst = false)
    (a : Nat) (ha : InDestination g dst a) :
    (m'.moveAll (frameMoves g pd dst)).read a = (m.moveAll (frameMoves g pd dst)).read a := by
  obtain ⟨-, hcopy, -⟩ := copy_frame m g pd dst hwf hfit ho
  obtain ⟨-, hcopy', -⟩ := copy_frame m' g pd dst hwf' hfit ho
  obtain ⟨p, r, c, hr, hc, rfl⟩ := exists_dstByte g pd dst a ha
  rw [hcopy p r c hr hc, hcopy' p r c hr hc, hfoot _ ⟨p, r, c, hr, hc, rfl⟩]

/-- Settles O24: each way EXTRACT can end is decided by the operands, and the copy reads the footprint. -/
theorem extractDependsOnlyOnFrame : Obligations.ExtractDependsOnlyOnFrame := by
  intro s s' t hwf hwf' hs hstate hg hpd hbad hdst hcap hfoot h
  have hcheck : frameCheck s' = frameCheck s := frameCheck_congr s s' hg hbad hpd hdst hcap
  have hs' : s'.state ≠ .halted := hstate ▸ hs
  rcases execExtract_cases s t h with
    ⟨hh, -⟩ | ⟨hu, rfl⟩ | ⟨-, hu, c, hc, rfl⟩ | ⟨-, hu, f, hf, ho, rfl⟩
  · exact absurd hh hs
  · exact ⟨_, execExtract_notConfigured s' (hstate.trans hu), rfl, rfl, rfl, rfl, rfl, rfl, rfl,
      fun hvalid => absurd hvalid (by simp)⟩
  · refine ⟨_, execExtract_failed s' c hs' (hstate ▸ hu) (hcheck.trans hc), ?_, rfl, rfl, rfl, rfl, rfl,
      rfl, fun hvalid => absurd hvalid (by simp)⟩
    rw [fail_state, fail_state, hstate]
  · refine ⟨_, execExtract_packed s' f hs' (hstate ▸ hu) (hcheck.trans hf) (by rw [hg, hpd, hdst, ho]),
      rfl, rfl, rfl, rfl, ?_, ?_, ?_, fun _ a ha => ?_⟩
    case refine_4 =>
      simpa [hg, hpd, hdst] using copy_read_congr hwf hwf' hfoot (destination_le_memBytes hf) ho a ha
    all_goals simp [hg, hdst]

end Sys2Proof.Machine
end

section
/-! SUPPORT. Which operations neither read nor write M: every register transaction but an EXTRACT that copies
its frame (20_memory.md R61, 60_exceptions.md R188). -/

namespace Sys2Proof.Machine

/-! ### Operations that ignore M -/

/-- `op` takes `s` to `t` without changing M, and with any other memory in its place it answers `t` with that
memory. -/
structure IgnoresMemory (op : State → Result) (s t : State) : Prop where
  mem    : t.mem = s.mem
  anyMem : ∀ m, op (s.withMem m) = .next (t.withMem m)

/-! ### Register reads and writes to registers other than CMD -/

theorem readReg_withMem (s : State) (m : Memory) (r : WindowReg) :
    readReg (s.withMem m) r = readReg s r := by
  cases r <;> rfl

theorem writeReg_withMem (s : State) (v : Word) (m : Memory) (r : WindowReg) :
    writeReg (s.withMem m) v r = (writeReg s v r).withMem m := by
  cases r <;> rfl

theorem hostRead_of_windowReg {off : Nat} {r : WindowReg} (s : State) (h : windowReg off = some r) :
    hostRead off s = .next (s.withReply (.word (readReg s r))) := by
  simp only [hostRead, h]

theorem hostWrite_of_windowReg {off : Nat} {r : WindowReg} (v : Word) (s : State)
    (h : windowReg off = some r) (hr : r ≠ .cmd) : hostWrite off v s = .next (writeReg s v r) := by
  cases r with
  | cmd => exact absurd rfl hr
  | _ => simp only [hostWrite, h]

/-- The value read comes from a register, never from M. -/
theorem hostRead_ignoresMemory {off : Nat} {s t : State} (h : hostRead off s = .next t) :
    IgnoresMemory (hostRead off) s t := by
  obtain ⟨r, hr, rfl⟩ := hostRead_cases off s t h
  refine ⟨rfl, fun m => ?_⟩
  rw [hostRead_of_windowReg _ hr, readReg_withMem]
  rfl

/-! ### The commands -/

theorem exec_ignoresMemory_of_halted {i : Instr} {s : State} (hs : s.state = .halted)
    (hi : i ≠ .softReset) : IgnoresMemory (exec i) s s.rejected :=
  ⟨rfl, fun m => exec_halted i (s.withMem m) hs hi⟩

@[simp] theorem frameCheck_withMem (s : State) (m : Memory) : frameCheck (s.withMem m) = frameCheck s :=
  frameCheck_congr _ _ rfl rfl rfl rfl rfl

/-- A rejected or failing EXTRACT ends before the copy, and the checks before it do not look at M (R188). -/
theorem execExtract_ignoresMemory {s t : State} (h : execExtract s = .next t)
    (hfails : s.state ≠ .halted → t.outValid = false) : IgnoresMemory execExtract s t := by
  rcases execExtract_cases s t h with
    ⟨hs, rfl⟩ | ⟨hu, rfl⟩ | ⟨hs, hu, c, hc, rfl⟩ | ⟨hs, -, f, -, -, rfl⟩
  · exact exec_ignoresMemory_of_halted (i := .extract) hs (by decide)
  · exact ⟨rfl, fun m => execExtract_notConfigured (s.withMem m) hu⟩
  · exact ⟨rfl, fun m => execExtract_failed (s.withMem m) c hs hu ((frameCheck_withMem s m).trans hc)⟩
  · exact absurd (hfails hs) (by simp)

/-- Every command ignores M but an EXTRACT that is accepted and succeeds (R61). -/
theorem exec_ignoresMemory {i : Instr} {s t : State} (h : exec i s = .next t)
    (hnocopy : ¬ (i = .extract ∧ s.state ≠ .halted ∧ t.outValid = true)) :
    IgnoresMemory (exec i) s t := by
  cases i with
  | configure =>
    rcases execConfigure_cases s t h with ⟨hs, rfl⟩ | ⟨hs, rfl⟩
    · exact exec_ignoresMemory_of_halted hs (by decide)
    · exact ⟨rfl, fun m => execConfigure_accepted (s.withMem m) hs⟩
  | setplane idx =>
    rcases execSetplane_cases s t idx h with ⟨hs, rfl⟩ | ⟨hs, p, hp, rfl⟩ | ⟨hs, hp, rfl⟩
    · exact exec_ignoresMemory_of_halted hs (by simp)
    · exact ⟨rfl, fun m => execSetplane_stored (s.withMem m) idx p hs hp⟩
    · exact ⟨rfl, fun m => execSetplane_badPlane (s.withMem m) idx hs hp⟩
  | extract =>
    exact execExtract_ignoresMemory h fun hs =>
      Bool.eq_false_iff.mpr fun hvalid => hnocopy ⟨rfl, hs, hvalid⟩
  | softReset =>
    injection h with h
    subst h
    exact ⟨rfl, fun _ => rfl⟩

/-! ### CMD writes, and writes to the window -/

theorem writeCmd_of_illegal {w : Word} {e : Illegal} (s : State) (h : decode w = .error e) :
    writeCmd w s = .next s.rejected := by
  simp only [writeCmd, h]

theorem writeCmd_of_legal {w : Word} {i : Instr} (s : State) (h : decode w = .ok i) :
    writeCmd w s = exec i s := by
  simp only [writeCmd, h]

theorem writeCmd_ignoresMemory {w : Word} {s t : State} (h : writeCmd w s = .next t)
    (hnocopy : ¬ (decode w = .ok .extract ∧ s.state ≠ .halted ∧ t.outValid = true)) :
    IgnoresMemory (writeCmd w) s t := by
  rcases writeCmd_cases w s t h with ⟨⟨e, he⟩, rfl⟩ | ⟨i, hi, hexec⟩
  · exact ⟨rfl, fun m => writeCmd_of_illegal (s.withMem m) he⟩
  · have hexec_ignores : IgnoresMemory (exec i) s t := by
      refine exec_ignoresMemory hexec ?_
      rintro ⟨rfl, hcopy⟩
      exact hnocopy ⟨hi, hcopy⟩
    exact ⟨hexec_ignores.mem, fun m => (writeCmd_of_legal _ hi).trans (hexec_ignores.anyMem m)⟩

theorem hostWrite_ignoresMemory {off : Nat} {v : Word} {s t : State} (h : hostWrite off v s = .next t)
    (hnocopy : ¬ (off = 0x00 ∧ decode v = .ok .extract ∧ s.state ≠ .halted ∧ t.outValid = true)) :
    IgnoresMemory (hostWrite off v) s t := by
  rcases hostWrite_cases off v s t h with ⟨hoff, hcmd⟩ | ⟨r, hr, hne, rfl⟩
  · obtain rfl := (windowReg_eq_cmd off).mp hoff
    exact writeCmd_ignoresMemory hcmd fun hcopy => hnocopy ⟨rfl, hcopy⟩
  · refine ⟨writeReg_mem s v r, fun m => ?_⟩
    rw [hostWrite_of_windowReg v _ hr hne, writeReg_withMem]

/-- Settles O23: a read takes its value from the registers, and each way a write can end short of the copy
ignores M. -/
theorem onlyACopyTouchesMemory : Obligations.OnlyACopyTouchesMemory := by
  intro s t off v m
  constructor
  · intro hread
    obtain ⟨hmem, hany⟩ := hostRead_ignoresMemory hread
    exact ⟨t.withMem m, hany m, hmem, rfl⟩
  · intro hwrite hnocopy
    obtain ⟨hmem, hany⟩ := hostWrite_ignoresMemory hwrite hnocopy
    exact ⟨t.withMem m, hany m, hmem, rfl⟩

end Sys2Proof.Machine
end

section
/-! SUPPORT. Decoder and encoder are inverse to each other on the well-formed commands, what the legal words
are (30_encoding.md R80 to R87), and which CMD writes are accepted (R89). -/

namespace Sys2Proof

/-! ### Decoding by fields -/

/-- The converse of `decode_ok_fields`: the fields of a command's word decide that it decodes to it. -/
theorem decode_eq_ok_of_fields {w : Word} {i : Instr} (hrsv : rsvField w = 0)
    (hopc : opcField w = Laws.EncodeFields.opcode i) (harg : argField w = Laws.EncodeFields.argument i) :
    decode w = .ok i := by
  simp only [decode, withoutArg, hrsv, hopc, harg]
  cases i <;> rfl

theorem encode_fields (i : Instr) : Laws.EncodeFields.Statement i := by
  cases i with
  | configure => exact Laws.EncodeFields.configure
  | setplane idx => exact Laws.EncodeFields.setplane idx
  | extract => exact Laws.EncodeFields.extract
  | softReset => exact Laws.EncodeFields.softReset

theorem wellFormed_setplane (idx : Nat) : (Instr.setplane idx).WellFormed ↔ idx < 256 := by
  simp [Instr.WellFormed, Instr.wf, Nat.lt_succ_iff]

/-- A decoded plane index is a value of ARG, so it has eight bits (R83). -/
theorem wellFormed_of_decode_eq_ok {w : Word} {i : Instr} (h : decode w = .ok i) : i.WellFormed := by
  cases i with
  | setplane idx =>
    obtain ⟨-, -, harg⟩ := decode_ok_fields w _ h
    have hlt := argField_lt w
    rw [harg] at hlt
    exact (wellFormed_setplane idx).mpr hlt
  | configure | extract | softReset => rfl

/-! ### Decoder and encoder are inverse -/

/-- Settles O2: the fields of the encoding are the command's, and they decide what the word decodes to. -/
theorem decodeInvertsEncode : Obligations.DecodeInvertsEncode := by
  intro i hwf
  obtain ⟨hrsv, hopc, harg⟩ := encode_fields i hwf
  exact decode_eq_ok_of_fields hrsv hopc harg

/-- Settles O3: the legal word and the encoding of its command decode alike, and two words that decode alike
are the same. -/
theorem encodeInvertsDecode : Obligations.EncodeInvertsDecode := by
  intro w i h
  have hwf : i.WellFormed := wellFormed_of_decode_eq_ok h
  exact ⟨hwf, eq_of_decode_eq_ok (decodeInvertsEncode i hwf) h⟩

theorem decode_eq_ok_iff_encode {w : Word} {i : Instr} : decode w = .ok i ↔ i.WellFormed ∧ encode i = w := by
  constructor
  · exact encodeInvertsDecode w i
  · rintro ⟨hwf, rfl⟩
    exact decodeInvertsEncode i hwf

/-- Settles O1: the seven words of R82 to R85, each evaluated. -/
theorem commandWordsDecode : Obligations.CommandWordsDecode := by
  unfold Obligations.CommandWordsDecode
  decide

/-! ### The legal words (R87) -/

/-- `legal(w)` of R87 and the words that decode are the same. -/
theorem exists_decode_eq_ok_iff_fields (w : Word) : (∃ i, decode w = .ok i) ↔
    rsvField w = 0 ∧ ((opcField w = 0x01 ∧ argField w = 0) ∨ opcField w = 0x02 ∨
      (opcField w = 0x03 ∧ argField w = 0) ∨ (opcField w = 0x04 ∧ argField w = 0)) := by
  constructor
  · rintro ⟨i, h⟩
    obtain ⟨hrsv, hopc, harg⟩ := decode_ok_fields w i h
    cases i with
    | configure => exact ⟨hrsv, .inl ⟨hopc, harg⟩⟩
    | setplane idx => exact ⟨hrsv, .inr (.inl hopc)⟩
    | extract => exact ⟨hrsv, .inr (.inr (.inl ⟨hopc, harg⟩))⟩
    | softReset => exact ⟨hrsv, .inr (.inr (.inr ⟨hopc, harg⟩))⟩
  · rintro ⟨hrsv, ⟨hopc, harg⟩ | hopc | ⟨hopc, harg⟩ | ⟨hopc, harg⟩⟩
    · exact ⟨.configure, decode_eq_ok_of_fields hrsv hopc harg⟩
    · exact ⟨.setplane (argField w), decode_eq_ok_of_fields hrsv hopc rfl⟩
    · exact ⟨.extract, decode_eq_ok_of_fields hrsv hopc harg⟩
    · exact ⟨.softReset, decode_eq_ok_of_fields hrsv hopc harg⟩

/-- The well-formed commands, each once. -/
def wellFormedCommands : List Instr :=
  [.configure, .extract, .softReset] ++ (List.range 256).map .setplane

theorem mem_wellFormedCommands (i : Instr) : i ∈ wellFormedCommands ↔ i.WellFormed := by
  cases i with
  | setplane idx => simp [wellFormedCommands, wellFormed_setplane]
  | configure | extract | softReset => simp [wellFormedCommands, Instr.WellFormed, Instr.wf]

theorem wellFormedCommands_nodup : wellFormedCommands.Nodup := by
  have hsetplane : Function.Injective Instr.setplane := fun _ _ h => Instr.setplane.inj h
  simp [wellFormedCommands, List.nodup_range.map hsetplane]

/-- The legal words: the encodings of the well-formed commands. -/
def legalWords : List Word := wellFormedCommands.map encode

theorem mem_legalWords (w : Word) : w ∈ legalWords ↔ ∃ i, decode w = .ok i := by
  simp only [legalWords, List.mem_map, mem_wellFormedCommands, decode_eq_ok_iff_encode]

theorem legalWords_length : legalWords.length = 259 := by
  simp [legalWords, wellFormedCommands]

/-- Different commands have different words, since each is decoded from its own. -/
theorem legalWords_nodup : legalWords.Nodup := by
  refine List.Nodup.map_on (fun i hi j hj hij => ?_) wellFormedCommands_nodup
  have hdi := decodeInvertsEncode i ((mem_wellFormedCommands i).mp hi)
  have hdj := decodeInvertsEncode j ((mem_wellFormedCommands j).mp hj)
  rw [hij, hdj] at hdi
  exact (Except.ok.inj hdi).symm

theorem encode_setplane_eq_iff {idx : Nat} (h : idx < 256) (w : Word) :
    encode (.setplane idx) = w ↔ w.toNat = idx * 256 + 2 := by
  rw [← encode_setplane_toNat idx (Nat.le_of_lt_succ h), eq_comm, BitVec.toNat_eq]

theorem mem_legalWords_iff_value (w : Word) : w ∈ legalWords ↔
    w = 0x00000001#32 ∨ w = 0x00000003#32 ∨ w = 0x00000004#32 ∨ ∃ ii < 256, w.toNat = ii * 256 + 2 := by
  have hsetplane : (∃ idx < 256, encode (.setplane idx) = w) ↔ ∃ ii < 256, w.toNat = ii * 256 + 2 :=
    exists_congr fun _ => and_congr_right fun h => encode_setplane_eq_iff h w
  calc w ∈ legalWords
    _ ↔ w = encode .configure ∨ w = encode .extract ∨ w = encode .softReset ∨
        ∃ idx < 256, encode (.setplane idx) = w := by simp [legalWords, wellFormedCommands]
    _ ↔ _ := or_congr_right (or_congr_right (or_congr_right hsetplane))

/-- Settles O4: the fields decide the outcome, and the legal words are the encodings of the 259 well-formed
commands. -/
theorem decodeFollowsLegal : Obligations.DecodeFollowsLegal := by
  refine ⟨fun w => ?_, legalWords, legalWords_length, legalWords_nodup, mem_legalWords, mem_legalWords_iff_value⟩
  simp only [BitVec.toNat_eq (n := 8), BitVec.toNat_eq (n := 16)]
  refine ⟨fun ⟨hrsv, hopc, harg⟩ => decode_eq_ok_of_fields hrsv hopc harg,
    fun ⟨hrsv, hopc⟩ => decode_eq_ok_of_fields hrsv hopc rfl,
    fun ⟨hrsv, hopc, harg⟩ => decode_eq_ok_of_fields hrsv hopc harg,
    fun ⟨hrsv, hopc, harg⟩ => decode_eq_ok_of_fields hrsv hopc harg, fun hillegal => ?_⟩
  cases hd : decode w with
  | error e => exact ⟨e, rfl⟩
  | ok i => exact absurd ((exists_decode_eq_ok_iff_fields w).mp ⟨i, hd⟩) hillegal

namespace Machine

/-! ### CMD writes (R89) -/

theorem hostWrite_cmd (w : Word) (s : State) : hostWrite 0x00 w s = writeCmd w s := rfl

theorem acceptUnlessHalted_withCmdErr_false {s : State} (body : State → Result) (h : s.state ≠ .halted) :
    acceptUnlessHalted (s.withCmdErr false) body = acceptUnlessHalted s body := by
  rw [acceptUnlessHalted_accepted s body h, acceptUnlessHalted_accepted (s.withCmdErr false) body h]
  rfl

/-- Accepting a command clears CMDERR first, so its old value does not matter. -/
theorem exec_withCmdErr_false {i : Instr} {s : State} (h : s.state ≠ .halted ∨ i = .softReset) :
    exec i (s.withCmdErr false) = exec i s := by
  rcases h with h | rfl
  · cases i with
    | configure => simp only [exec, execConfigure, acceptUnlessHalted_withCmdErr_false _ h]
    | setplane idx => simp only [exec, execSetplane, acceptUnlessHalted_withCmdErr_false _ h]
    | extract => simp only [exec, execExtract, acceptUnlessHalted_withCmdErr_false _ h]
    | softReset => rfl
  · rfl

theorem exec_cmdErr_of_accepted {i : Instr} {s t : State} (h : s.state ≠ .halted ∨ i = .softReset)
    (hexec : exec i s = .next t) : t.cmdErr = false := by
  cases i with
  | configure =>
    have hs := h.resolve_right (by decide)
    rcases execConfigure_cases s t hexec with ⟨hh, -⟩ | ⟨-, rfl⟩
    · exact absurd hh hs
    · rfl
  | setplane idx =>
    have hs := h.resolve_right (by simp)
    rcases execSetplane_cases s t idx hexec with ⟨hh, -⟩ | ⟨-, p, -, rfl⟩ | ⟨-, -, rfl⟩
    · exact absurd hh hs
    · rfl
    · rfl
  | extract =>
    have hs := h.resolve_right (by decide)
    rcases execExtract_cases s t hexec with
      ⟨hh, -⟩ | ⟨-, rfl⟩ | ⟨-, -, c, -, rfl⟩ | ⟨-, -, f, -, -, rfl⟩
    · exact absurd hh hs
    · rfl
    · rfl
    · rfl
  | softReset =>
    injection hexec with hexec
    subst hexec
    rfl

/-- Settles O8: a word is illegal, or stopped by Halted, or its command is accepted. -/
theorem cmdWriteRejectsOrExecutes : Obligations.CmdWriteRejectsOrExecutes := by
  intro s w
  rw [hostWrite_cmd]
  constructor
  · rintro (⟨e, he⟩ | ⟨hs, hw⟩)
    · exact writeCmd_of_illegal s he
    · cases hd : decode w with
      | error e => exact writeCmd_of_illegal s hd
      | ok i =>
        have hi : i ≠ .softReset := fun hi => hw (hi ▸ hd)
        exact (writeCmd_of_legal s hd).trans (exec_halted i s hs hi)
  · intro i hi haccepted
    rw [writeCmd_of_legal s hi]
    exact ⟨(exec_withCmdErr_false haccepted).symm, fun t => exec_cmdErr_of_accepted haccepted⟩

end Machine
end Sys2Proof
end


section
/-! SUPPORT. The host's accesses to the register window, offset by offset, and the step that performs the
host's next event (40_register_access.md R100 to R106). -/

namespace Sys2Proof.Machine

/-! ### The next event (R100) -/

theorem step_of_pending {s : State} {e : HostEvent} {rest : List HostEvent} (h : s.pending = e :: rest) :
    step s = hostEvent e (takeEvent rest s) := by
  simp only [step, performNext, h]

/-- Settles O6: whatever the event at the head, the step is `hostEvent` of it. -/
theorem stepPerformsTheNextEvent : Obligations.StepPerformsTheNextEvent := by
  intro s rest s1
  exact ⟨fun _ _ => step_of_pending, fun _ => step_of_pending, fun _ => step_of_pending,
    fun _ _ => step_of_pending, fun _ => step_of_pending, step_of_pending, fun _ => step_of_pending⟩

/-- Settles O5: the event is a CMD write, and a CMD write of a legal word executes its command. -/
theorem stepExecutesDecodedCommand : Obligations.StepExecutesDecodedCommand := by
  intro s w rest i hpending hdecode
  refine ⟨wellFormed_of_decode_eq_ok hdecode, ?_⟩
  calc step s
    _ = hostWrite 0x00 w (takeEvent rest s) := step_of_pending hpending
    _ = writeCmd w (takeEvent rest s) := hostWrite_cmd w _
    _ = exec i (takeEvent rest s) := writeCmd_of_legal _ hdecode

/-! ### Which offsets have a register (R24, R106) -/

theorem windowReg_isSome_iff (off : Nat) : (windowReg off).isSome = true ↔ off < 0x80 ∧ off % 4 = 0 := by
  constructor
  · intro h
    unfold windowReg at h
    split at h <;> simp at h ⊢
  · rintro ⟨hlt, haligned⟩
    have every_aligned_offset : ∀ off < 0x80, off % 4 = 0 → (windowReg off).isSome = true := by decide
    exact every_aligned_offset off hlt haligned

theorem exists_windowReg {off : Nat} (hlt : off < 0x80) (haligned : off % 4 = 0) :
    ∃ r, windowReg off = some r :=
  Option.isSome_iff_exists.mp ((windowReg_isSome_iff off).mpr ⟨hlt, haligned⟩)

theorem windowReg_eq_none {off : Nat} (h : off % 4 ≠ 0 ∨ 0x80 ≤ off) : windowReg off = none := by
  rw [← Option.not_isSome_iff_eq_none, windowReg_isSome_iff]
  omega

theorem hostWrite_of_windowReg_eq_none {off : Nat} (v : Word) (s : State) (h : windowReg off = none) :
    hostWrite off v s = .refused (.undefinedWindowAccess off) := by
  simp only [hostWrite, h]

theorem hostRead_of_windowReg_eq_none {off : Nat} (s : State) (h : windowReg off = none) :
    hostRead off s = .refused (.undefinedWindowAccess off) := by
  simp only [hostRead, h]

/-- Settles O34: no register stands at such an offset, and an access of another width is never one to a
register. -/
theorem undefinedWindowAccessIsRefused : Obligations.UndefinedWindowAccessIsRefused := by
  intro s off v
  refine ⟨rfl, fun hundefined => ?_⟩
  have hnone := windowReg_eq_none hundefined
  exact ⟨hostWrite_of_windowReg_eq_none v s hnone, hostRead_of_windowReg_eq_none s hnone⟩

/-! ### Writes (R102, R103) -/

/-- The staging and destination registers, which `WR` changes (R102). -/
def WindowReg.isStaging : WindowReg → Bool
  | .gFormat | .gWidth | .gHeight | .gCropCtrl | .gCropWidth | .gCropHeight => true
  | .pdAddr | .pdStride | .dstAddr | .dstCap => true
  | _ => false

theorem writeReg_of_not_staging (s : State) (v : Word) {r : WindowReg} (h : r.isStaging = false) :
    writeReg s v r = s := by
  cases r with
  | gFormat | gWidth | gHeight | gCropCtrl | gCropWidth | gCropHeight => cases h
  | pdAddr | pdStride | dstAddr | dstCap => cases h
  | _ => rfl

/-- The staging registers are those at 0x08 to 0x2C (R24). -/
theorem isStaging_iff_of_windowReg {off : Nat} {r : WindowReg} (h : windowReg off = some r) :
    r.isStaging = true ↔ 0x08 ≤ off ∧ off ≤ 0x2C := by
  obtain ⟨hlt, -⟩ := (windowReg_isSome_iff off).mp (Option.isSome_of_eq_some h)
  have every_register : ∀ off < 0x80, ∀ r ∈ windowReg off, r.isStaging = true ↔ 0x08 ≤ off ∧ off ≤ 0x2C := by
    decide
  exact every_register off hlt r h

/-- Settles O33: the register there is neither CMD nor a staging register. -/
theorem writeToReadOnlyIsIgnored : Obligations.WriteToReadOnlyIsIgnored := by
  intro s off v haligned hreadOnly
  obtain ⟨r, hr⟩ := exists_windowReg (by omega) haligned
  have hcmd : r ≠ .cmd := by
    rintro rfl
    have hzero := (windowReg_eq_cmd off).mp hr
    omega
  have hstaging : r.isStaging = false := by
    rw [← Bool.not_eq_true, isStaging_iff_of_windowReg hr]
    omega
  rw [hostWrite_of_windowReg v s hr hcmd, writeReg_of_not_staging s v hstaging]

/-- Settles O32: at each of the ten offsets stands a register other than CMD, and `writeReg` sets its
field. -/
theorem writeStagesTheField : Obligations.WriteStagesTheField := by
  intro s off v
  have write_at (k : Nat) (r : WindowReg) (hk : windowReg k = some r) (hr : r ≠ .cmd) (h : off = k) :
      hostWrite off v s = .next (writeReg s v r) := hostWrite_of_windowReg v s (h ▸ hk) hr
  exact ⟨write_at 0x08 .gFormat rfl nofun, write_at 0x0C .gWidth rfl nofun,
    write_at 0x10 .gHeight rfl nofun, write_at 0x14 .gCropCtrl rfl nofun,
    write_at 0x18 .gCropWidth rfl nofun, write_at 0x1C .gCropHeight rfl nofun,
    write_at 0x20 .pdAddr rfl nofun, write_at 0x24 .pdStride rfl nofun,
    write_at 0x28 .dstAddr rfl nofun, write_at 0x2C .dstCap rfl nofun⟩

/-! ### Reads (R105) -/

theorem bitWord_toNat (b : Bool) : (bitWord b).toNat = b.toNat := by
  cases b <;> rfl

/-- Settles O31: an aligned offset has a register, and `readReg` gives its value; a field of fewer bits is
read as the same number. -/
theorem readReturnsTheRegister : Obligations.ReadReturnsTheRegister := by
  intro s off hlt haligned
  obtain ⟨r, hr⟩ := exists_windowReg hlt haligned
  have value (k : Nat) (r' : WindowReg) (hk : windowReg k = some r') (h : off = k) :
      readReg s r = readReg s r' := by
    have hsame : some r = some r' := by rw [← hr, h, hk]
    rw [Option.some.inj hsame]
  have number (k : Nat) (r' : WindowReg) (hk : windowReg k = some r') {n : Nat}
      (hn : (readReg s r').toNat = n) (h : off = k) : (readReg s r).toNat = n := by
    rw [value k r' hk h, hn]
  refine ⟨readReg s r, hostRead_of_windowReg s hr, ?_⟩
  exact ⟨value 0x00 .cmd rfl, value 0x04 .status rfl,
    number 0x08 .gFormat rfl (BitVec.toNat_setWidth_of_le (by decide)),
    value 0x0C .gWidth rfl, value 0x10 .gHeight rfl,
    number 0x14 .gCropCtrl rfl (bitWord_toNat s.sg.cropEn),
    value 0x18 .gCropWidth rfl, value 0x1C .gCropHeight rfl,
    value 0x20 .pdAddr rfl, value 0x24 .pdStride rfl, value 0x28 .dstAddr rfl, value 0x2C .dstCap rfl,
    number 0x30 .aFormat rfl (BitVec.toNat_setWidth_of_le (by decide)),
    value 0x34 .aWidth rfl, value 0x38 .aHeight rfl,
    number 0x3C .aCropCtrl rfl (bitWord_toNat s.g.cropEn),
    value 0x40 .aCropWidth rfl, value 0x44 .aCropHeight rfl,
    value 0x48 .outLen rfl, value 0x4C .outAddr rfl,
    value 0x50 (.prOffset .p0) rfl, value 0x54 (.prSize .p0) rfl,
    number 0x58 (.prSem .p0) rfl (BitVec.toNat_setWidth_of_le (by decide)), value 0x5C .reserved rfl,
    value 0x60 (.prOffset .p1) rfl, value 0x64 (.prSize .p1) rfl,
    number 0x68 (.prSem .p1) rfl (BitVec.toNat_setWidth_of_le (by decide)), value 0x6C .reserved rfl,
    value 0x70 (.prOffset .p2) rfl, value 0x74 (.prSize .p2) rfl,
    number 0x78 (.prSem .p2) rfl (BitVec.toNat_setWidth_of_le (by decide)), value 0x7C .reserved rfl⟩

end Sys2Proof.Machine
end

section
/-! SUPPORT. The session commands CONFIGURE and SOFT_RESET, and the state machine of the four commands
(41_session_commands.md R110 to R113). -/

namespace Sys2Proof.Machine

/-! ### Halted (R113), CONFIGURE (R110) and SOFT_RESET (R111) -/

theorem exec_softReset (s : State) : exec .softReset s = .next s.blockReset := rfl

/-- Settles O9: each of the three commands is one that Halted rejects. -/
theorem haltedRejectsFrameAndSessionCommands : Obligations.HaltedRejectsFrameAndSessionCommands := by
  intro s idx hs
  exact ⟨exec_halted .configure s hs nofun, exec_halted (.setplane idx) s hs nofun,
    exec_halted .extract s hs nofun⟩

/-- Settles O10: CONFIGURE is rejected in Halted, and where it is accepted it answers `configured s`. -/
theorem configureCommitsGeometry : Obligations.ConfigureCommitsGeometry := by
  intro s
  exact ⟨fun hs => exec_halted .configure s hs nofun, fun hs => execConfigure_accepted s hs⟩

/-- Settles O11: SOFT_RESET answers the reset block whatever STATE is. -/
theorem softResetClearsAllButMemory : Obligations.SoftResetClearsAllButMemory := by
  intro s
  exact ⟨s.blockReset, exec_softReset s, blockReset_isReset s, rfl, rfl, rfl, rfl⟩

/-! ### The state machine, one lemma per command (R112) -/

theorem eq_rejected_of_exec_halted {i : Instr} {s t : State} (hs : s.state = .halted)
    (hi : i ≠ .softReset) (h : exec i s = .next t) : t = s.rejected := by
  rw [exec_halted i s hs hi] at h
  injection h with h
  exact h.symm

theorem exec_configure_state {s t : State} (hs : s.state ≠ .halted) (h : exec .configure s = .next t) :
    t.state = .configured := by
  rcases execConfigure_cases s t h with ⟨hh, -⟩ | ⟨-, rfl⟩
  · exact absurd hh hs
  · rfl

/-- SETPLANE stays in the state it finds, rejected or not, stored or latched. -/
theorem exec_setplane_state {s t : State} {idx : Nat} (h : exec (.setplane idx) s = .next t) :
    t.state = s.state := by
  rcases execSetplane_cases s t idx h with ⟨-, rfl⟩ | ⟨-, p, -, rfl⟩ | ⟨-, -, rfl⟩
  · exact (sameSession_rejected s).state
  · exact (sameSession_withPlane s p).state
  · exact (sameSession_withBadPlane s).state

theorem exec_softReset_state {s t : State} (h : exec .softReset s = .next t) :
    t.state = .unconfigured := by
  rw [exec_softReset] at h
  injection h with h
  exact h ▸ State.blockReset_state s

theorem exec_extract_unconfigured {s t : State} (hs : s.state = .unconfigured)
    (h : exec .extract s = .next t) :
    t.state = .unconfigured ∧ t.err = .unsupportedFormat ∧ t.cause = .notConfigured := by
  rw [exec, execExtract_notConfigured s hs] at h
  injection h with h
  subst h
  exact ⟨rfl, rfl, rfl⟩

/-- A failure that began in Configured halts with FrameMapError and stays in Configured with either other
error; a cause other than "none" has one of the three (R182, R186). -/
theorem fail_outcome {c : Cause} (hc : c ≠ .noError) (s : State) :
    ((c.err = .unsupportedFormat ∨ c.err = .allocationFailure) ∧
      (fail c.err c .configured s).state = .configured) ∨
    (c.err = .frameMapError ∧ (fail c.err c .configured s).state = .halted) := by
  rw [fail_state]
  cases he : c.err with
  | noError => exact absurd (c.err_eq_noError_iff.mp he) hc
  | unsupportedFormat => exact .inl ⟨.inl rfl, rfl⟩
  | frameMapError => exact .inr ⟨rfl, rfl⟩
  | allocationFailure => exact .inl ⟨.inr rfl, rfl⟩

/-- The three outcomes of EXTRACT in Configured: a packed frame, a session error, a fatal error. -/
theorem exec_extract_configured {s t : State} (hs : s.state = .configured)
    (h : exec .extract s = .next t) :
    (t.outValid = true ∧ t.err = .noError ∧ t.state = .configured) ∨
    (t.outValid = false ∧ (t.err = .unsupportedFormat ∨ t.err = .allocationFailure) ∧
      t.state = .configured) ∨
    (t.outValid = false ∧ t.err = .frameMapError ∧ t.state = .halted) := by
  rcases execExtract_cases s t h with ⟨hh, -⟩ | ⟨hu, -⟩ | ⟨-, -, c, hc, rfl⟩ | ⟨-, -, f, -, -, rfl⟩
  · exact absurd (hs.symm.trans hh) nofun
  · exact absurd (hs.symm.trans hu) nofun
  · obtain ⟨hcause, -⟩ := frameCheck_error_ne s c hc
    rw [hs]
    rcases fail_outcome hcause ((s.withCmdErr false).withState .processing) with
      ⟨herr, hstate⟩ | ⟨herr, hstate⟩
    · exact .inr (.inl ⟨rfl, herr, hstate⟩)
    · exact .inr (.inr ⟨rfl, herr, hstate⟩)
  · exact .inl ⟨rfl, rfl, rfl⟩

/-- Settles O13: each row of R112 is the lemma of its command, in the state of the row. -/
theorem stateMachineTransitions : Obligations.StateMachineTransitions := by
  intro s t idx
  refine ⟨fun hs => ?unconfigured, fun hs => ?configured, fun hs => ?halted⟩
  case unconfigured =>
    refine ⟨exec_configure_state (by simp [hs]), fun h => (exec_setplane_state h).trans hs, fun h => ?_,
      exec_softReset_state⟩
    obtain ⟨hstate, herr, hcause⟩ := exec_extract_unconfigured hs h
    exact ⟨hstate, herr, by rw [hcause, Cause.code]⟩
  case configured =>
    exact ⟨exec_configure_state (by simp [hs]), fun h => (exec_setplane_state h).trans hs,
      exec_extract_configured hs, exec_softReset_state⟩
  case halted =>
    exact ⟨eq_rejected_of_exec_halted hs nofun, eq_rejected_of_exec_halted hs nofun,
      eq_rejected_of_exec_halted hs nofun, exec_softReset_state⟩

end Sys2Proof.Machine
end

section
/-! SUPPORT. The frame commands: what SETPLANE stores, how large the packed frame is, and how an EXTRACT in
Configured ends when no check fails (42_frame_commands.md R120 to R140). -/

namespace Sys2Proof.Machine

/-! ### EXTRACT that meets no error condition (R133 to R135) -/

/-- EXTRACT whose checks pass is refused when the copy would write its own source (R133, U7). -/
theorem execExtract_refused {s : State} {f : PixelFormat} (hh : s.state ≠ .halted)
    (hu : s.state ≠ .unconfigured) (hf : frameCheck s = .ok f)
    (ho : overlaps s.g s.pd s.dstAddr = true) :
    execExtract s = .refused .destinationOverlapsSource := by
  rw [execExtract, acceptUnlessHalted_accepted s _ hh]
  simp [hu, hf, ho]

/-- An accepted EXTRACT that vouches for a buffer has packed a checked frame apart from its source. -/
theorem exec_extract_valid {s t : State} (hs : s.state ≠ .halted) (h : exec .extract s = .next t)
    (hvalid : t.outValid = true) :
    ∃ f, frameCheck s = .ok f ∧ overlaps s.g s.pd s.dstAddr = false ∧
      t = packed f ((s.withCmdErr false).withState .processing) := by
  rcases execExtract_cases s t h with
    ⟨hh, -⟩ | ⟨-, rfl⟩ | ⟨-, -, c, -, rfl⟩ | ⟨-, -, f, hf, ho, rfl⟩
  · exact absurd hh hs
  · exact absurd hvalid (by simp)
  · exact absurd hvalid (by simp)
  · exact ⟨f, hf, ho, rfl⟩

/-- The ranges of a packed frame are those of R150, as numbers: the checks keep them within 32 bits. -/
theorem planeRange_of_frameCheck {s : State} {f : PixelFormat} (hf : frameCheck s = .ok f) (p : Plane) :
    (planeRange s.g f p).offset.toNat = planeOff s.g p ∧
    (planeRange s.g f p).size.toNat = planeSize s.g p ∧ (planeRange s.g f p).sem = semOf f p := by
  obtain ⟨-, -, hlen⟩ := frameCheck_ok_fits s f hf p
  exact ⟨planeRange_offset_toNat f p hlen, planeRange_size_toNat f p hlen, rfl⟩

theorem bufLen_toNat_of_frameCheck {s : State} {f : PixelFormat} (hf : frameCheck s = .ok f) :
    (BitVec.ofNat 32 (bufLen s.g)).toNat = bufLen s.g := by
  obtain ⟨-, -, hlen⟩ := frameCheck_ok_fits s f hf .p0
  exact bufLen_word_toNat hlen

/-- Settles O19: no cause means that the checks pass, so the frame is packed, and the copy of a frame
apart from its destination puts every source byte in its place. -/
theorem extractPacksFrame : Obligations.ExtractPacksFrame := by
  intro s hwf hs hnone hdisjoint
  obtain ⟨hu, f, hf⟩ := (noCause_iff s).mp hnone
  have ho := (frameDisjoint_iff s).mp hdisjoint
  obtain ⟨hcode, -⟩ := (frameCheck_eq_ok s f).mp hf
  obtain ⟨-, hcopied, hkept⟩ := copy_frame s.mem s.g s.pd s.dstAddr hwf (destination_le_memBytes hf) ho
  refine ⟨_, f, execExtract_packed s f (by simp [hs]) hu hf ho, hcopied, hkept,
    bufLen_toNat_of_frameCheck hf, (PixelFormat.ofCode_eq_some _ _).mp hcode, fun p => ?ranges, rfl⟩
  case ranges =>
    rw [packed_pr, PerPlane.get_ofPlane]
    exact planeRange_of_frameCheck hf p

/-- Settles O20: no cause means that the checks pass, and the overlap is what `overlaps` computes. -/
theorem overlappingExtractIsRefused : Obligations.OverlappingExtractIsRefused := by
  intro s hs hnone hshared
  obtain ⟨hu, f, hf⟩ := (noCause_iff s).mp hnone
  have ho : overlaps s.g s.pd s.dstAddr = true := by
    rwa [frameDisjoint_iff, Bool.not_eq_false] at hshared
  exact execExtract_refused (by simp [hs]) hu hf ho

/-! ### Padding (R133) -/

/-- Frames of one geometry whose planes hold the same pictures, wherever and however far apart their rows
lie, are copied to the same bytes. -/
theorem copy_read_of_same_pictures {m m' : Memory} {g : Geometry} {pd pd' : PerPlane PlaneEntry}
    {dst : Word} (hwf : m.wf = true) (hwf' : m'.wf = true)
    (hpicture : ∀ p r c, r < planeH g p → c < planeW g p →
      m'.read (srcAddr (pd'.get p) r c) = m.read (srcAddr (pd.get p) r c))
    (hfit : dst.toNat + bufLen g ≤ Config.memBytes) (ho : overlaps g pd dst = false)
    (ho' : overlaps g pd' dst = false) (a : Nat) (ha : InDestination g dst a) :
    (m'.moveAll (frameMoves g pd' dst)).read a = (m.moveAll (frameMoves g pd dst)).read a := by
  obtain ⟨-, hcopied, -⟩ := copy_frame m g pd dst hwf hfit ho
  obtain ⟨-, hcopied', -⟩ := copy_frame m' g pd' dst hwf' hfit ho'
  obtain ⟨p, r, c, hr, hc, rfl⟩ := exists_dstByte g pd dst a ha
  rw [hcopied p r c hr hc, hcopied' p r c hr hc, hpicture p r c hr hc]

/-- The checks that pass on two frames of one geometry establish the same format. -/
theorem frameCheck_format_unique {s s' : State} {f f' : PixelFormat} (hf : frameCheck s = .ok f)
    (hf' : frameCheck s' = .ok f') (hg : s'.g = s.g) : f' = f := by
  obtain ⟨hcode, -⟩ := (frameCheck_eq_ok s f).mp hf
  obtain ⟨hcode', -⟩ := (frameCheck_eq_ok s' f').mp hf'
  rw [hg, hcode] at hcode'
  exact (Option.some.inj hcode').symm

/-- Settles O25: both EXTRACTs packed a frame of one geometry and format, so the results agree, and the
two copies agree because the pictures do. -/
theorem packingIgnoresPadding : Obligations.PackingIgnoresPadding := by
  intro s s' t t' hwf hwf' hs hs' hg hdst hpicture h h' hvalid hvalid'
  obtain ⟨f, hf, ho, rfl⟩ := exec_extract_valid (by simp [hs]) h hvalid
  obtain ⟨f', hf', ho', rfl⟩ := exec_extract_valid (by simp [hs']) h' hvalid'
  obtain rfl := frameCheck_format_unique hf hf' hg
  rw [hg, hdst] at ho'
  refine ⟨by simp [hg], by simp [hg], fun a ha => ?buffer⟩
  case buffer =>
    simpa [hg, hdst] using
      copy_read_of_same_pictures hwf hwf' hpicture (destination_le_memBytes hf) ho ho' a ha

/-! ### Sizes (R124, R125, R140) -/

/-- Where the checks pass, a plane's rows are no longer than its stride, so its segment is no longer than
its strided rows (R130). -/
theorem planeSize_le_stride_mul_height {s : State} {f : PixelFormat} (hf : frameCheck s = .ok f)
    (p : Plane) : planeSize s.g p ≤ (s.pd.get p).stride.toNat * planeH s.g p := by
  obtain ⟨-, -, -, -, hstride, -, -, -⟩ := (frameCheck_eq_ok s f).mp hf
  have hwidth : planeW s.g p ≤ (s.pd.get p).stride.toNat := by
    by_contra hlt
    have := (strideBelowWidth_iff s.g s.pd).mpr ⟨p, Nat.lt_of_not_le hlt⟩
    simp [hstride] at this
  exact Nat.mul_le_mul_right _ hwidth

/-- Settles O27: a buffer comes from a packed frame, whose checks bound it by the strides and by DST_CAP. -/
theorem outputLengthIsBounded : Obligations.OutputLengthIsBounded := by
  intro s t hs h hvalid
  obtain ⟨f, hf, -, rfl⟩ := exec_extract_valid hs h hvalid
  have hlen := bufLen_toNat_of_frameCheck hf
  have hplane := planeSize_le_stride_mul_height hf
  obtain ⟨-, -, -, -, -, -, hcap, -⟩ := (frameCheck_eq_ok s f).mp hf
  simp only [packed_outLen, State.withState_g, State.withCmdErr_g, hlen]
  exact ⟨bufLen_eq s.g, Nat.add_le_add (Nat.add_le_add (hplane .p0) (hplane .p1)) (hplane .p2), hcap⟩

/-- For even dimensions a chroma plane has a quarter of the luma plane's bytes: 3/2 in all (R125). -/
theorem two_mul_bufLen_of_even {g : Geometry} (hW : effW g % 2 = 0) (hH : effH g % 2 = 0) :
    2 * bufLen g = 3 * (effW g * effH g) := by
  obtain ⟨a, ha⟩ := Nat.dvd_of_mod_eq_zero hW
  obtain ⟨b, hb⟩ := Nat.dvd_of_mod_eq_zero hH
  rw [bufLen_eq, ha, hb, Nat.mul_div_cancel_left a two_pos, Nat.mul_div_cancel_left b two_pos]
  ring

/-- Settles O17: the dimensions are the definitions of R123 and R124, the lengths follow from R125. -/
theorem frameDimensionsAndOffsets : Obligations.FrameDimensionsAndOffsets := by
  intro g W H
  exact ⟨⟨rfl, rfl⟩, ⟨rfl, rfl⟩, ⟨rfl, rfl⟩, fun _ => rfl, ⟨rfl, rfl, rfl⟩, bufLen_eq g,
    two_mul_bufLen_of_even⟩

/-! ### SETPLANE (R120) -/

theorem planeOfIndex_eq_none {idx : Nat} (h : 3 ≤ idx) : planeOfIndex idx = none := by
  match idx, h with
  | _ + 3, _ => rfl

/-- Settles O16: SETPLANE is rejected in Halted; otherwise the index names an entry or is out of range. -/
theorem setplaneStoresOrLatches : Obligations.SetplaneStoresOrLatches := by
  intro s idx
  refine ⟨fun hs => exec_halted (.setplane idx) s hs nofun, ?p0, ?p1, ?p2, fun hs hidx =>
    execSetplane_badPlane s idx hs (planeOfIndex_eq_none hidx)⟩
  case p0 => rintro hs rfl; exact execSetplane_stored s 0 .p0 hs rfl
  case p1 => rintro hs rfl; exact execSetplane_stored s 1 .p1 hs rfl
  case p2 => rintro hs rfl; exact execSetplane_stored s 2 .p2 hs rfl

/-! ### What every EXTRACT clears and keeps (R136, R137) -/

/-- Settles O21: a failure and a packed frame both leave the empty descriptor table. -/
theorem extractConsumesFrame : Obligations.ExtractConsumesFrame := by
  intro s t hs h
  suffices hframe : t.pd = PerPlane.replicate PlaneEntry.zero ∧ t.badPlane = false by
    obtain ⟨hpd, hbad⟩ := hframe
    exact ⟨fun p => by rw [hpd, PerPlane.get_replicate, PlaneEntry.zero], hbad⟩
  rcases execExtract_cases s t h with ⟨hh, -⟩ | ⟨-, rfl⟩ | ⟨-, -, c, -, rfl⟩ | ⟨-, -, f, -, -, rfl⟩
  · exact absurd hh hs
  all_goals exact ⟨rfl, rfl⟩

/-- Settles O22: rejection, failure and success are built from updates that do not touch the operand
registers. -/
theorem extractKeepsOperandRegisters : Obligations.ExtractKeepsOperandRegisters := by
  intro s t h
  rcases execExtract_cases s t h with ⟨-, rfl⟩ | ⟨-, rfl⟩ | ⟨-, -, c, -, rfl⟩ | ⟨-, -, f, -, -, rfl⟩
  all_goals exact ⟨rfl, rfl, rfl, rfl, rfl⟩

end Sys2Proof.Machine
end

section
/-! SUPPORT. The format of the active geometry decides only the names of the planes: every size, address
and check of EXTRACT behind the format check is the same for each supported code (43_plane_range_table.md
R151 to R155). -/

namespace Sys2Proof.Machine

/-! ### Another format code in the active geometry -/

/-- The geometry with another format code (R27). -/
def Geometry.withFormat (g : Geometry) (c : Byte) : Geometry := { g with format := c }

/-- The state whose active geometry has another format code. -/
def State.withFormat (s : State) (c : Byte) : State := { s with g := s.g.withFormat c }

section
variable (g : Geometry) (c : Byte) (pd : PerPlane PlaneEntry) (dst : Word)

@[simp] theorem planeSize_withFormat (p : Plane) : planeSize (g.withFormat c) p = planeSize g p := rfl

@[simp] theorem planeOff_withFormat (p : Plane) : planeOff (g.withFormat c) p = planeOff g p := rfl

@[simp] theorem bufLen_withFormat : bufLen (g.withFormat c) = bufLen g := rfl

@[simp] theorem hasOddDimension_withFormat : hasOddDimension (g.withFormat c) = hasOddDimension g := rfl

@[simp] theorem strideBelowWidth_withFormat :
    strideBelowWidth (g.withFormat c) pd = strideBelowWidth g pd := rfl

@[simp] theorem sourceOutsideMemory_withFormat :
    sourceOutsideMemory (g.withFormat c) pd = sourceOutsideMemory g pd := rfl

@[simp] theorem overlaps_withFormat : overlaps (g.withFormat c) pd dst = overlaps g pd dst := rfl

@[simp] theorem frameMoves_withFormat : frameMoves (g.withFormat c) pd dst = frameMoves g pd dst := rfl

end

/-- Where the checks pass, they pass with any other supported format code and establish its format. -/
theorem frameCheck_withFormat {s : State} {f f' : PixelFormat} {c : Byte} (hf : frameCheck s = .ok f)
    (hc : PixelFormat.ofCode c = some f') : frameCheck (s.withFormat c) = .ok f' := by
  obtain ⟨-, hrest⟩ := (frameCheck_eq_ok s f).mp hf
  refine (frameCheck_eq_ok (s.withFormat c) f').mpr ⟨hc, ?_⟩
  simpa [State.withFormat] using hrest

/-! ### EXTRACT of the same frame under two formats -/

/-- A valid buffer was not reported from Unconfigured (R112, R122). -/
theorem state_ne_unconfigured_of_valid {s t : State} (hs : s.state ≠ .halted)
    (h : exec .extract s = .next t) (hvalid : t.outValid = true) : s.state ≠ .unconfigured := by
  intro hu
  obtain ⟨hstate, -, -⟩ := exec_extract_unconfigured hu h
  obtain ⟨f, -, -, rfl⟩ := exec_extract_valid hs h hvalid
  exact absurd hstate (by simp)

/-- A frame that EXTRACT packs is packed with any other supported format code too, in that format. -/
theorem exec_extract_withFormat {s : State} {f f' : PixelFormat} {c : Byte} (hh : s.state ≠ .halted)
    (hu : s.state ≠ .unconfigured) (hf : frameCheck s = .ok f)
    (ho : overlaps s.g s.pd s.dstAddr = false) (hc : PixelFormat.ofCode c = some f') :
    exec .extract (s.withFormat c) =
      .next (packed f' (((s.withFormat c).withCmdErr false).withState .processing)) :=
  execExtract_packed (s.withFormat c) f' hh hu (frameCheck_withFormat hf hc)
    ((overlaps_withFormat s.g c s.pd s.dstAddr).trans ho)

/-- Packing under another format code: M, the length, the address, the offsets and the sizes of the plane
ranges are the same (R150, R155). -/
theorem packed_withFormat (f f' : PixelFormat) (s : State) (c : Byte) :
    (packed f' (s.withFormat c)).mem = (packed f s).mem ∧
    (packed f' (s.withFormat c)).outLen = (packed f s).outLen ∧
    (packed f' (s.withFormat c)).outAddr = (packed f s).outAddr ∧
    ∀ p, ((packed f' (s.withFormat c)).pr.get p).offset = ((packed f s).pr.get p).offset ∧
      ((packed f' (s.withFormat c)).pr.get p).size = ((packed f s).pr.get p).size := by
  simp [State.withFormat, planeRange]

/-- Settles O26: the frame that was packed as I420 is packed as YV12 by the same copy, and the codes are
those of the two rows of R151 and R152. -/
theorem formatDecidesOnlyTheNames : Obligations.FormatDecidesOnlyTheNames := by
  intro s t hformat hs h hvalid
  have hu := state_ne_unconfigured_of_valid hs h hvalid
  obtain ⟨f, hf, ho, rfl⟩ := exec_extract_valid hs h hvalid
  obtain ⟨hcode, -⟩ := (frameCheck_eq_ok s f).mp hf
  rw [hformat] at hcode
  obtain rfl : .i420 = f := Option.some.inj hcode
  obtain ⟨hmem, hlen, haddr, hranges⟩ :=
    packed_withFormat .i420 .yv12 ((s.withCmdErr false).withState .processing) 2#8
  exact ⟨_, exec_extract_withFormat (c := 2#8) hs hu hf ho rfl, hmem, hlen, haddr, hranges,
    ⟨rfl, rfl, rfl⟩, ⟨rfl, rfl, rfl⟩⟩

end Sys2Proof.Machine
end

section
/-! SUPPORT. What the block vouches for downstream while OUT_VALID = 1, and how long it does
(44_downstream_contract.md R160, R163). -/

namespace Sys2Proof.Machine

/-! ### The results agree with the active geometry (R160) -/

/-- The agreement reads nothing but the session. -/
theorem ResultsMatchGeometry.of_sameSession {s t : State} (hs : ResultsMatchGeometry s)
    (session : SameSession s t) : ResultsMatchGeometry t := by
  intro hvalid
  rw [session.g, session.outLen, session.pr]
  exact hs (session.outValid.symm.trans hvalid)

/-- A packed frame reports the length and the ranges of the geometry it was checked against (R135, R150). -/
theorem resultsMatchGeometry_packed {s : State} {f : PixelFormat} (hf : frameCheck s = .ok f) :
    ResultsMatchGeometry (packed f (s.withCmdErr false)) := by
  intro _
  obtain ⟨hcode, -⟩ := (frameCheck_eq_ok s f).mp hf
  refine ⟨(bufLen_toNat_of_frameCheck hf).trans (bufLen_eq s.g), f, hcode, fun p => ?ranges⟩
  case ranges =>
    rw [packed_pr, PerPlane.get_ofPlane]
    exact planeRange_of_frameCheck hf p

/-- Every effect of an event keeps the agreement: the geometry changes only where the results are dropped. -/
theorem EventEffect.resultsMatchGeometry {e : HostEvent} {s t : State} (h : EventEffect e s t)
    (hs : ResultsMatchGeometry s) : ResultsMatchGeometry t := by
  cases h with
  | kept session mem => exact hs.of_sameSession session
  | stored a b ha ht => exact ht ▸ hs.of_sameSession (sameSession_withMem s _)
  | committed he ht => exact ht ▸ resultsMatchGeometry_of_outValid_eq_false rfl
  | failed c hacc ht => exact ht ▸ resultsMatchGeometry_of_outValid_eq_false rfl
  | delivered f hf ho ht => exact ht ▸ resultsMatchGeometry_packed hf
  | reset he ht => exact ht ▸ resultsMatchGeometry_of_outValid_eq_false rfl
  | cut he f hf ht => exact ht ▸ resultsMatchGeometry_of_outValid_eq_false rfl

/-- Settles O41: each effect of the event performed keeps the agreement; an idle step holds the state. -/
theorem stepKeepsResultsMatchGeometry : Obligations.StepKeepsResultsMatchGeometry := by
  intro s t hs hstep
  rcases step_effect s t hstep with rfl | ⟨e, rest, -, heffect⟩
  · exact hs
  · exact heffect.resultsMatchGeometry (hs.of_sameSession (sameSession_takeEvent rest s))

/-! ### How long the results stay (R163) -/

theorem SameSession.trans {s t u : State} (h : SameSession s t) (h' : SameSession t u) : SameSession s u where
  state := h'.state.trans h.state
  g := h'.g.trans h.g
  err := h'.err.trans h.err
  cause := h'.cause.trans h.cause
  outValid := h'.outValid.trans h.outValid
  outLen := h'.outLen.trans h.outLen
  outAddr := h'.outAddr.trans h.outAddr
  pr := h'.pr.trans h.pr

theorem sameSession_of_execSetplane {idx : Nat} {s t : State} (h : execSetplane idx s = .next t) :
    SameSession s t := by
  rcases execSetplane_cases s t idx h with ⟨-, rfl⟩ | ⟨-, p, -, rfl⟩ | ⟨-, -, rfl⟩
  · exact sameSession_rejected s
  · exact sameSession_withPlane s p
  · exact sameSession_withBadPlane s

/-- A CMD write of any word but those of CONFIGURE, EXTRACT and SOFT_RESET is rejected or a SETPLANE (R89). -/
theorem sameSession_of_writeCmd {w : Word} {s t : State} (h : writeCmd w s = .next t)
    (hconfigure : w ≠ 0x00000001#32) (hextract : w ≠ 0x00000003#32) (hsoftReset : w ≠ 0x00000004#32) :
    SameSession s t := by
  rcases writeCmd_cases w s t h with ⟨-, rfl⟩ | ⟨i, hi, hexec⟩
  · exact sameSession_rejected s
  · cases i with
    | configure => exact absurd (eq_of_decode_eq_ok hi (by decide)) hconfigure
    | setplane idx => exact sameSession_of_execSetplane hexec
    | extract => exact absurd (eq_of_decode_eq_ok hi (by decide)) hextract
    | softReset => exact absurd (eq_of_decode_eq_ok hi (by decide)) hsoftReset

/-- Only a reset and the CMD writes of CONFIGURE and EXTRACT touch the session. -/
theorem sameSession_of_hostEvent {e : HostEvent} {s t : State} (h : hostEvent e s = .next t)
    (hreset : ¬ IsReset e) (hconfigure : e ≠ .wr 0x00 0x00000001#32)
    (hextract : e ≠ .wr 0x00 0x00000003#32) : SameSession s t := by
  cases e with
  | wr off v =>
    rcases hostWrite_cases off v s t h with ⟨hoff, hcmd⟩ | ⟨r, -, -, rfl⟩
    · obtain rfl := (windowReg_eq_cmd off).mp hoff
      exact sameSession_of_writeCmd hcmd (fun hw => hconfigure (hw ▸ rfl))
        (fun hw => hextract (hw ▸ rfl)) (fun hw => hreset ⟨rfl, hw⟩)
    · exact sameSession_writeReg s v r
  | rd off =>
    obtain ⟨r, -, rfl⟩ := hostRead_cases off s t h
    exact sameSession_withReply s _
  | otherAccess off => cases h
  | store a b =>
    obtain ⟨-, rfl⟩ := hostStore_cases a b s t h
    exact sameSession_withMem s _
  | load a =>
    obtain ⟨-, rfl⟩ := hostLoad_cases a s t h
    exact sameSession_withReply s _
  | hwReset => exact absurd trivial hreset
  | cmdCutByReset w => exact absurd trivial hreset

/-- Settles O44: such an event leaves the session, and the results are part of it. -/
theorem resultsStayUntilNextFrame : Obligations.ResultsStayUntilNextFrame := by
  intro s t e rest hpending hstep hreset hconfigure hextract
  rw [step_of_pending hpending] at hstep
  have session : SameSession s t := (sameSession_takeEvent rest s).trans
    (sameSession_of_hostEvent hstep hreset hconfigure hextract)
  exact ⟨session.outValid, session.outLen, session.outAddr, session.pr, session.err, session.cause⟩

end Sys2Proof.Machine
end

section
/-! SUPPORT. Errors and idle time: which cause a failing EXTRACT raises, how Halted is left, and the step of an
idle block (60_exceptions.md R186, R187, R191, R201). -/

namespace Sys2Proof.Machine

/-! ### The first cause (R186, R187) -/

/-- Behind the state gate, the checks of EXTRACT are the search of R187's table without its first row. -/
theorem frameCheck_eq_error_of_find? {s : State} {c : Cause}
    (h : causeOrder.tail.find? (causeCheck s) = some c) : frameCheck s = .error c := by
  simp only [causeOrder, List.tail_cons, List.find?_cons] at h
  unfold frameCheck
  cases hfmt : PixelFormat.ofCode s.g.format with
  | none =>
    have hbad : causeCheck s .badFormat = true := by simp [causeCheck, hfmt]
    simpa [hbad] using h
  | some f =>
    have hgood : causeCheck s .badFormat = false := by simp [causeCheck, hfmt]
    rw [hgood] at h
    -- one goal for each later row of the table, and one for a search that finds nothing
    repeat' split at h
    all_goals simp_all [causeCheck]

/-- The failure procedure leaves what R186 lists, whatever STATE an EXTRACT shows on its way there. -/
theorem fail_eq_failedWith (c : Cause) (s : State) (x : SessionState) :
    fail c.err c s.state ((s.withCmdErr false).withState x) = failedWith c s := rfl

theorem execExtract_unconfigured_failedWith {s : State} (hu : s.state = .unconfigured) :
    execExtract s = .next (failedWith .notConfigured s) := by
  rw [execExtract_notConfigured s hu, ← hu]
  rfl

/-- Settles O18: the search of R187 ends at the state gate or in one of the checks behind it. -/
theorem extractFailsWithFirstCause : Obligations.ExtractFailsWithFirstCause := by
  intro s c hs _ hfirst
  have hfind := (firstCause_iff s c).mp hfirst
  by_cases hu : s.state = .unconfigured
  · have hgate : causeCheck s .notConfigured = true := by simp [causeCheck, hu]
    rw [causeOrder, List.find?_cons_of_pos hgate, Option.some.injEq] at hfind
    exact hfind ▸ execExtract_unconfigured_failedWith hu
  · have hgate : ¬ causeCheck s .notConfigured = true := by simp [causeCheck, hu]
    rw [causeOrder, List.find?_cons_of_neg hgate] at hfind
    exact (execExtract_failed s c hs hu (frameCheck_eq_error_of_find? hfind)).trans
      (congrArg _ (fail_eq_failedWith c s .processing))

/-! ### Halted (R191) -/

theorem hostEvent_wr_cmd {w : Word} {i : Instr} (s : State) (hw : decode w = .ok i) :
    hostEvent (.wr 0x00 w) s = exec i s :=
  (hostWrite_cmd w s).trans (writeCmd_of_legal s hw)

/-- SOFT_RESET and both forms of hardware reset leave the reset values (R210, R211). -/
theorem blockIsReset_of_hostEvent {e : HostEvent} {s t : State} (he : IsReset e)
    (h : hostEvent e s = .next t) : BlockIsReset t := by
  cases e with
  | wr off v =>
    obtain ⟨rfl, rfl⟩ := he
    rw [hostEvent_wr_cmd s (i := .softReset) (by decide), exec_softReset] at h
    injection h with h
    exact h ▸ blockReset_isReset s
  | hwReset =>
    injection h with h
    exact h ▸ blockReset_isReset s
  | cmdCutByReset w =>
    rcases cmdCutByReset_cases w s t h with rfl | ⟨-, -, -, -, -, rfl⟩
    · exact blockReset_isReset s
    · exact blockReset_isReset _
  | _ => exact he.elim

/-- In Halted the words of CONFIGURE and EXTRACT are rejected, and no other event but a reset writes STATE. -/
theorem hostEvent_keeps_halted {e : HostEvent} {s t : State} (hs : s.state = .halted) (he : ¬ IsReset e)
    (h : hostEvent e s = .next t) : t.state = .halted := by
  have hrejected {w : Word} {i : Instr} (hw : decode w = .ok i) (hi : i ≠ .softReset)
      (hword : e = .wr 0x00 w) : t.state = .halted := by
    rw [hword, hostEvent_wr_cmd s hw] at h
    exact eq_rejected_of_exec_halted hs hi h ▸ hs
  by_cases hconfigure : e = .wr 0x00 0x00000001#32
  · exact hrejected (i := .configure) (by decide) nofun hconfigure
  · by_cases hextract : e = .wr 0x00 0x00000003#32
    · exact hrejected (i := .extract) (by decide) nofun hextract
    · exact (sameSession_of_hostEvent h he hconfigure hextract).state.trans hs

/-- Settles O14: an idle step holds Halted, and so does every event that is no reset. -/
theorem haltedIsLeftOnlyByReset : Obligations.HaltedIsLeftOnlyByReset := by
  intro s t hs hstep hleft
  rcases step_cases s t hstep with ⟨-, rfl⟩ | ⟨e, rest, hpending, hevent⟩
  · exact absurd hs hleft
  · by_cases he : IsReset e
    · exact ⟨⟨e, rest, hpending, he⟩, blockIsReset_of_hostEvent he hevent⟩
    · exact absurd (hostEvent_keeps_halted (s := takeEvent rest s) hs he hevent) hleft

/-! ### Idle time (R201) -/

/-- Settles O7: with no event pending, `performNext` answers the state it was given. -/
theorem idleStepHoldsState : Obligations.IdleStepHoldsState := by
  intro s hidle
  simp only [step, performNext, hidle]

end Sys2Proof.Machine
end

section
/-! SUPPORT. Hardware reset, between commands and during one, and the EXTRACT that finds its frame already
consumed (70_reset_and_hazards.md R210, R211, R221; 93_implementation_defined.md U13). -/

namespace Sys2Proof.Machine

/-! ### Hardware reset between commands (R210, R211) -/

/-- Settles O37: the event is a hardware reset, and `blockReset` keeps M and the model's own fields. -/
theorem hardwareResetKeepsMemory : Obligations.HardwareResetKeepsMemory := by
  intro s rest hpending
  exact ⟨(takeEvent rest s).blockReset, step_of_pending hpending, blockReset_isReset _, rfl, rfl, rfl⟩

/-! ### Hardware reset during a command (R211, U13) -/

/-- An EXTRACT cut by a reset is refused only for the overlap that an uncut one is refused for. -/
theorem exists_extractCutByReset_eq_next {s : State}
    (h : s.state = .halted ∨ ¬ NoCause s ∨ FrameDisjoint s) : ∃ t, extractCutByReset s = .next t := by
  unfold extractCutByReset
  split
  · exact ⟨_, rfl⟩
  · next hstate =>
    obtain ⟨hh, hu⟩ := not_or.mp hstate
    split
    · exact ⟨_, rfl⟩
    · next f hf =>
      have hdisjoint : FrameDisjoint s :=
        (h.resolve_left hh).resolve_left (not_not_intro ((noCause_iff s).mpr ⟨hu, f, hf⟩))
      simp [(frameDisjoint_iff s).mp hdisjoint]

/-- The model answers every abandoned command but the EXTRACT that would write its own source. -/
theorem exists_cmdCutByReset_eq_next {w : Word} {s : State}
    (h : decode w ≠ .ok .extract ∨ s.state = .halted ∨ ¬ NoCause s ∨ FrameDisjoint s) :
    ∃ t, cmdCutByReset w s = .next t := by
  unfold cmdCutByReset
  split
  · next hw => exact exists_extractCutByReset_eq_next (h.resolve_left (not_not_intro hw))
  all_goals exact ⟨_, rfl⟩

/-- What an abandoned command leaves: the block reset, and M as it was outside the destination range of an
EXTRACT that had reached its copy. -/
theorem cmdCutByReset_spec {w : Word} {s t : State} (hwf : s.mem.wf = true)
    (h : cmdCutByReset w s = .next t) :
    BlockIsReset t ∧ t.pending = s.pending ∧ t.mem.wf = true ∧
      ∀ a, ¬ (decode w = .ok .extract ∧ s.state ≠ .halted ∧ NoCause s ∧ InDestination s.g s.dstAddr a) →
        t.mem.read a = s.mem.read a := by
  rcases cmdCutByReset_cases w s t h with rfl | ⟨hw, hh, hu, ⟨f, hf⟩, -, rfl⟩
  · exact ⟨blockReset_isReset s, rfl, hwf, fun _ _ => rfl⟩
  · have hlt := destinationAddrs_lt_memBytes hf
    refine ⟨blockReset_isReset _, rfl, Memory.scramble_wf _ s.mem s.freeCount hwf hlt, fun a ha => ?_⟩
    have houtside : a ∉ destinationAddrs s.g s.dstAddr := fun hmem =>
      ha ⟨hw, hh, (noCause_iff s).mpr ⟨hu, f, hf⟩, (mem_destinationAddrs s.g s.dstAddr a).mp hmem⟩
    exact Memory.scramble_read_other _ s.mem s.freeCount hwf hlt a houtside

/-- Settles O38: the cut command is answered, and what it leaves is `cmdCutByReset_spec`; taking the event
changes none of the fields either of them reads. -/
theorem abandonedCommandIsReset : Obligations.AbandonedCommandIsReset := by
  intro s w rest hwf hpending hanswered
  obtain ⟨t, ht⟩ := exists_cmdCutByReset_eq_next (s := takeEvent rest s) hanswered
  exact ⟨t, (step_of_pending hpending).trans ht, cmdCutByReset_spec (s := takeEvent rest s) hwf ht⟩

/-! ### EXTRACT without new descriptors (R141, R221) -/

/-- Behind a packed frame the first cause is the missing descriptor: STATE, the format and the dimensions are
those that have just passed, and the frame is consumed. -/
theorem firstCause_packed {s s₁ : State} {f : PixelFormat} (hf : frameCheck s = .ok f) (hg : s₁.g = s.g) :
    FirstCause (packed f s₁) .descriptorMissing := by
  obtain ⟨hformat, -, hodd, -⟩ := (frameCheck_eq_ok s f).mp hf
  have hmissing : descriptorsMissing (packed f s₁).pd = true := (descriptorsMissing_iff _).mpr ⟨.p0, rfl⟩
  rw [firstCause_iff]
  simp only [causeOrder, List.find?_cons, causeCheck, hmissing]
  simp [hg, hformat, hodd]

/-- Settles O28: the second EXTRACT fails with the first cause of the packed state, a FrameMapError. -/
theorem secondExtractWithoutPlanesHalts : Obligations.SecondExtractWithoutPlanesHalts := by
  intro s t hs hfirst hvalid
  obtain ⟨f, hf, -, rfl⟩ := exec_extract_valid (by simp [hs]) hfirst hvalid
  exact ⟨_, extractFailsWithFirstCause _ _ nofun nofun (firstCause_packed hf rfl), rfl, rfl, rfl, rfl, rfl⟩

end Sys2Proof.Machine
end
